-- ==== Sys2Proof/Word.lean ====
section
/-! DEFINITION. The engine's data widths: a byte, a 32-bit word, an 8-byte block, and the shapes of the two secret
register files (spec/00_scope.md R13, spec/10_state.md R21 and R25, spec/20_memory.md R57). -/

namespace Sys2Proof

/-- A byte: 8 bits, an unsigned integer 0 to 255 (R13). -/
abbrev Byte := BitVec 8

/-- A word: 32 bits, an unsigned integer (R13); all its arithmetic wraps (R120). -/
abbrev Word := BitVec 32

/-- A block, "exactly 8 bytes" (R57); also the shape of an IV (R32). Byte 0 comes first in the byte sequence. -/
abbrev Block := Vector Byte 8

/-- The round-key array `P[0..17]`: 18 words (R21). -/
abbrev RoundKeys := Vector Word 18

/-- One substitution table: 256 words (R25). -/
abbrev SBox := Vector Word 256

/-- The four substitution tables `S[0..3]` (R25). -/
abbrev SBoxes := Vector SBox 4

end Sys2Proof
end

