-- ==== Sys2Proof/Syntax.lean ====
section
/-! DEFINITION. The commands: the engine's instructions, one constructor per row of spec/opcode_table.json, and the
lines of the spec's assembler syntax (spec/30_encoding.md R82, R88). -/

namespace Sys2Proof

/-- The eleven commands of rule R82. A command has one format, `C0`, and no operand fields (R80): its operands are
implicit, the buffers and the length registers (R81). -/
inductive Instr where
  /-- 0x01: expand the key in `KBUF` into the schedule `P`, `S` (R100). -/
  | loadkey
  /-- 0x02: set the IV slot explicitly (R170). -/
  | setiv
  /-- 0x03: encipher one block (R127). -/
  | encblk
  /-- 0x04: decipher one block (R128). -/
  | decblk
  /-- 0x05: pad without an IV slot (R145). -/
  | pad
  /-- 0x06: pad with a reserved leading block (R146). -/
  | padiv
  /-- 0x07: cut the padding off (R149). -/
  | unpad
  /-- 0x08: ECB encryption (R160). -/
  | encecb
  /-- 0x09: ECB decryption (R163). -/
  | dececb
  /-- 0x0A: CBC encryption (R173). -/
  | enccbc
  /-- 0x0B: CBC decryption (R180). -/
  | deccbc
  deriving DecidableEq, Repr

/-- Every command once, in the order of the opcode map (R82, R83). -/
def Instr.all : List Instr :=
  [.loadkey, .setiv, .encblk, .decblk, .pad, .padiv, .unpad, .encecb, .dececb, .enccbc, .deccbc]

/-- One line of the spec's assembler syntax, `MNEMONIC operand ; entropy=answer` (R88): the command, the bytes the
host places in the operand buffer, and the answer of the entropy source that the line writes after the semicolon. -/
structure AsmLine where
  instr : Instr
  operand : List Byte
  entropy : Option EntropyAnswer
  deriving DecidableEq, Repr

end Sys2Proof
end

