-- ==== Sys2Proof/WellFormed.lean ====
section
/-! DEFINITION. What is checked of a command before it has a meaning: of a command byte, of a command and of a line
of the assembler syntax (spec/30_encoding.md R80, R84, R88). -/

namespace Sys2Proof

/-- A command byte is one of the eleven opcodes 0x01 to 0x0B; 0x00 and 0x0C to 0xFF are reserved (R82, R84). -/
def commandByteLegal (c : Byte) : Bool :=
  1 ≤ c.toNat && c.toNat ≤ 11

/-- A command is well-formed: it has no register, immediate or mode field that could be out of range (R80), so every
command is. -/
def Instr.wf : Instr → Bool
  | .loadkey | .setiv | .encblk | .decblk | .pad | .padiv | .unpad | .encecb | .dececb | .enccbc | .deccbc => true

/-- An assembler line is well-formed: only ENCCBC can ask the entropy source, so only its line may give an answer
(R88, R206). -/
def AsmLine.wf (l : AsmLine) : Bool :=
  l.entropy.isNone || l.instr == .enccbc

end Sys2Proof
end

