-- ==== Sys2Proof/Decode.lean ====
section
/-! DEFINITION. The decoder and the encoder of the one command format `C0` (spec/30_encoding.md R80, R82, R84, R87).
Decoding is a total function of the command byte alone. -/

namespace Sys2Proof

/-- Why a command byte is no command. -/
inductive DecodeError where
  /-- The byte is one of the 245 reserved opcodes 0x00 and 0x0C to 0xFF (R84). Raised by `decode`; the engine answers
  it with `IllegalCommand`. Safe: the spec gives such a byte that effect and no other. -/
  | reserved (c : Byte)
  deriving DecidableEq, Repr

/-- The opcode map of rule R82: all eight bits are compared, the mask being 0xFF. -/
def decode (c : Byte) : Except DecodeError Instr :=
  match c.toNat with
  | 0x01 => .ok .loadkey
  | 0x02 => .ok .setiv
  | 0x03 => .ok .encblk
  | 0x04 => .ok .decblk
  | 0x05 => .ok .pad
  | 0x06 => .ok .padiv
  | 0x07 => .ok .unpad
  | 0x08 => .ok .encecb
  | 0x09 => .ok .dececb
  | 0x0A => .ok .enccbc
  | 0x0B => .ok .deccbc
  | _ => .error (.reserved c)

/-- The command byte of a command (R82): the whole of its encoding (R80). -/
def encode : Instr → Byte
  | .loadkey => 0x01#8
  | .setiv => 0x02#8
  | .encblk => 0x03#8
  | .decblk => 0x04#8
  | .pad => 0x05#8
  | .padiv => 0x06#8
  | .unpad => 0x07#8
  | .encecb => 0x08#8
  | .dececb => 0x09#8
  | .enccbc => 0x0A#8
  | .deccbc => 0x0B#8

/-- What the decoder reads from a row of spec/opcode_table.json whose bits are `w`: a command is one byte and no
other length exists (R80, R86). -/
def decodeTableWord (nbits w : Nat) : Option Instr :=
  if nbits = 8 ∧ w < 256 then (decode (BitVec.ofNat 8 w)).toOption else none

end Sys2Proof
end

