-- ==== Sys2Proof/Machine/State.lean ====
section
/-! DEFINITION. The machine's state: every piece of state of rule R20 (spec/10_state.md), the moves of the host and the
answers of the entropy source that are still to come (spec/00_scope.md R10), and the state after reset
(spec/70_reset_and_hazards.md R231). -/

namespace Sys2Proof.Machine

/-- A byte-addressed buffer (R38, R50): an address space of its own, offsets counted from 0 and without an upper bound
(R55). `cells` lists the bytes that have a specified value, offsets strictly rising. An offset that is not listed has
no specified value: what it reads as is the free byte `Config.freeByte site epoch offset` (R53, R231; U4 to U6). -/
structure Memory where
  /-- Which buffer it is, for the label of its free bytes. -/
  site : FreeSite
  /-- The epoch in which its unlisted bytes became unspecified. -/
  epoch : Nat
  /-- The bytes with a specified value. -/
  cells : List Host.Cell
  deriving DecidableEq, Repr

/-- The CipherState: the round keys `P` and the substitution tables `S` (R18, R27). -/
structure CipherState where
  /-- `P[0..17]` (R21). -/
  p : RoundKeys
  /-- `S[0..3][0..255]` (R25). -/
  s : SBoxes
  deriving DecidableEq, Repr

/-- What the host can do between two commands (R10, R66, R221) and the reset line (R230). The host reads `STATUS`,
`OLEN` and `OBUF` without any effect, so reading is no move. -/
inductive HostMove where
  /-- Write one byte of `KBUF` (R38, R50). -/
  | writeKbuf (off : Nat) (v : Byte)
  /-- Write one byte of `IBUF` (R38, R50). -/
  | writeIbuf (off : Nat) (v : Byte)
  /-- Write `KLEN` (R35). -/
  | writeKlen (n : Nat)
  /-- Write `ILEN` (R35). -/
  | writeIlen (n : Nat)
  /-- Write `CMD`: the engine decodes the byte and runs the command, as one step (R16, R34). -/
  | writeCmd (c : Byte)
  /-- The reset line (R230). -/
  | reset
  /-- No move of the host: the annotation of an assembler line, by which the test harness says what the entropy source
  will answer from here on (R88). It replaces what was said before. -/
  | sourceAnswers (answers : List EntropyAnswer)
  deriving DecidableEq, Repr

/-- The error kinds of rule R191. -/
inductive EngineError where
  /-- LOADKEY with `KLEN` = 0 or above 56 (R192). -/
  | invalidKeyLength
  /-- Never raised by the engine: it belongs to the hexadecimal helpers outside it (R198). -/
  | invalidHexInput
  /-- DECECB or DECCBC on a length they do not accept (R193). -/
  | invalidCiphertextLength
  /-- ENCCBC without a set IV when the entropy source fails (R194). -/
  | entropySourceFailure
  /-- A command that needs a schedule while `KEYVALID` = 0 (R200). -/
  | noKey
  /-- A reserved command byte (R201). -/
  | illegalCommand
  /-- SETIV, ENCBLK, DECBLK with `ILEN` other than 8, UNPAD with `ILEN` = 0 (R199). -/
  | invalidOperandLength
  deriving DecidableEq, Repr

/-- The machine's state. From `cipher` to `obuf` it is the complete architectural state of rule R20, but for `CMD`,
which stores nothing (R34); `params`, `inbox`, `entropy` and `epoch` are the model's own. -/
structure State where
  /-- The open parameters of rule R11, the model's argument: no step changes them (R28). They stand here because `exec`
  and `step` take no other argument. -/
  params : Params
  /-- `P` and `S` (R21, R25). -/
  cipher : CipherState
  /-- `KEYVALID`: a LOADKEY has succeeded since reset (R29). -/
  keyValid : Bool
  /-- `IV[0..7]`, the IV slot (R32). -/
  iv : Block
  /-- `IVSET`: the IV has been explicitly set (R30). -/
  ivSet : Bool
  /-- `KLEN`: the length of the key in `KBUF` (R35). -/
  klen : Nat
  /-- `ILEN`: the length of the input in `IBUF` (R35). -/
  ilen : Nat
  /-- `OLEN`: the length of the result in `OBUF` (R36). -/
  olen : Nat
  /-- `STATUS`: the result code of the last command (R37). -/
  status : Byte
  /-- `KBUF`: the key buffer (R38, R50). -/
  kbuf : Memory
  /-- `IBUF`: the input buffer (R38, R50). -/
  ibuf : Memory
  /-- `OBUF`: the output buffer (R38, R50). -/
  obuf : Memory
  /-- The model's own: the host's moves still to come, the next one first (R33: "the next command is whatever the host
  writes to `CMD` next"). -/
  inbox : List HostMove
  /-- The model's own: the entropy source's answers still to come, the next one first; past its end an answer is
  `Config.freeEntropy` of the epoch (R175). -/
  entropy : List EntropyAnswer
  /-- The model's own: how many commands and resets have happened, the label of the next free value. -/
  epoch : Nat
  deriving DecidableEq, Repr

/-- The reasons the machine stops with a fault: there are none. The engine's only exceptional events are the errors a
command reports in `STATUS`, after which it goes on (R190, R203); there is no bus error and no access fault (R73). Safe:
no behaviour is cut off. -/
inductive Fault where
  deriving DecidableEq, Repr

/-- The reasons a step has no meaning. -/
inductive Refusal where
  /-- An instruction whose meaning is not written. Raised by no arm: every instruction has its meaning. Safe. -/
  | notModelled (mnemonic : String)
  /-- The configuration asks for a number of rounds other than 16, to which no rule gives a meaning (R12, D5, U10).
  Raised by the step, before a command runs; unreachable with `Config.rounds` = 16. Safe. -/
  | unsupportedRounds
  /-- The platform bounds its buffers by `MAXLEN` and the command's input or result does not fit: it "cannot be presented
  to the engine" (R55, D24). Raised by the step, before a command runs; never with `MAXLEN` unbounded. Safe. -/
  | beyondCapacity
  deriving DecidableEq, Repr

/-- A buffer none of whose bytes has a specified value. -/
def Memory.blank (site : FreeSite) (epoch : Nat) : Memory :=
  { site := site, epoch := epoch, cells := [] }

/-- A block of which nothing is known. -/
def freeBlock (site : FreeSite) (epoch : Nat) : Block :=
  Vector.ofFn fun i => Config.freeByte site epoch i.val

/-- A CipherState of which nothing is known (R231: "a model must not assume any value"). -/
@[irreducible] def freeCipherState (epoch : Nat) : CipherState :=
  { p := Vector.ofFn fun i => Config.freeWord .roundKeys epoch i.val
    s := Vector.ofFn fun k => Vector.ofFn fun i => Config.freeWord (.sbox k) epoch i.val }

/-- The engine with these parameters after a reset that happens in the given epoch (R231), nothing pending. What rule R231 leaves
unspecified is free: a register at a value without a body (DESIGN CHOICE, notes/assumptions/1.md), a buffer with no
listed byte (notes/assumptions/2.md). -/
def State.resetAt (params : Params) (epoch : Nat) : State :=
  { params := params
    cipher := freeCipherState epoch
    keyValid := false
    iv := freeBlock .iv epoch
    ivSet := false
    klen := 0
    ilen := 0
    olen := 0
    status := 0x00#8
    kbuf := .blank .kbuf epoch
    ibuf := .blank .ibuf epoch
    obuf := .blank .obuf epoch
    inbox := []
    entropy := []
    epoch := epoch + 1 }

/-- The machine right after its first reset (R231), the open parameters at their defaults (R11): no host move and no
entropy answer is listed. -/
def State.reset : State :=
  State.resetAt Params.default 0

end Sys2Proof.Machine
end

