-- ==== Sys2Proof/Machine/Ops.lean ====
section
/-! DEFINITION. The shared operations: byte order (spec/20_memory.md R57), the buffers' accesses (R73), raising an error
and completing a command (spec/60_exceptions.md R195, spec/20_memory.md R53), and the entropy draw (spec/44_cbc.md
R175). -/

namespace Sys2Proof.Machine

/-! ### Byte order -/

/-- `be32(b0, b1, b2, b3)`: the first byte is the most significant (R14). -/
def be32 (b0 b1 b2 b3 : Byte) : Word :=
  b0 ++ b1 ++ b2 ++ b3

/-- The left half of a block, bytes 0 to 3 (R57). -/
def leftHalf (b : Block) : Word :=
  be32 b[0] b[1] b[2] b[3]

/-- The right half of a block, bytes 4 to 7 (R57). -/
def rightHalf (b : Block) : Word :=
  be32 b[4] b[5] b[6] b[7]

/-- `bytes_be(L) ++ bytes_be(R)` (R14, R57). -/
def blockOfHalves (l r : Word) : Block :=
  #v[l.extractLsb' 24 8, l.extractLsb' 16 8, l.extractLsb' 8 8, l.extractLsb' 0 8,
     r.extractLsb' 24 8, r.extractLsb' 16 8, r.extractLsb' 8 8, r.extractLsb' 0 8]

/-- `xor8(x, y)`: byte-wise XOR of two blocks (R14). -/
def xor8 (x y : Block) : Block :=
  Vector.ofFn fun i => x[i] ^^^ y[i]

/-- The 8-byte blocks of a byte sequence, `x[8k..8k+8)` for k = 0, 1, 2, … (R61). A shorter tail would be left out; no
rule forms one. -/
def blocksOf : List Byte → List Block
  | b0 :: b1 :: b2 :: b3 :: b4 :: b5 :: b6 :: b7 :: rest =>
    #v[b0, b1, b2, b3, b4, b5, b6, b7] :: blocksOf rest
  | _ => []

/-- The byte sequence made of blocks, in order. -/
def bytesOf (blocks : List Block) : List Byte :=
  blocks.flatMap fun b => b.toList

/-! ### The buffers -/

/-- The byte a sorted list of cells gives an offset, if it lists it. -/
def lookupCell : List Host.Cell → Nat → Option Byte
  | [], _ => none
  | (k, v) :: cs, a => if a = k then some v else lookupCell cs a

/-- A byte put at an offset of a sorted list of cells, which stays sorted. -/
def insertCell : List Host.Cell → Nat → Byte → List Host.Cell
  | [], a, v => [(a, v)]
  | (k, w) :: cs, a, v =>
    if a < k then (a, v) :: (k, w) :: cs
    else if a = k then (a, v) :: cs
    else (k, w) :: insertCell cs a v

/-- The specified byte at an offset, if it has one. -/
def Memory.get? (m : Memory) (a : Nat) : Option Byte :=
  lookupCell m.cells a

/-- The byte at an offset: the specified one, or the free one (R53, R231). Reads have no effect (R64). -/
def Memory.read (m : Memory) (a : Nat) : Byte :=
  (m.get? a).getD (Config.freeByte m.site m.epoch a)

/-- One byte written. -/
def Memory.write (m : Memory) (a : Nat) (v : Byte) : Memory :=
  { m with cells := insertCell m.cells a v }

/-- `MemRead(buf, off, n)`: n bytes, in ascending offset order (R15, R73). -/
def Memory.readBytes (m : Memory) (off n : Nat) : List Byte :=
  (List.range n).map fun i => m.read (off + i)

/-- `MemRead(buf, off, 8)` as a block (R61). -/
def Memory.readBlock (m : Memory) (off : Nat) : Block :=
  Vector.ofFn fun i => m.read (off + i.val)

/-- `MemWrite(buf, off, n, v)` (R15, R73). -/
def Memory.writeBytes (m : Memory) (off : Nat) : List Byte → Memory
  | [] => m
  | v :: vs => (m.write off v).writeBytes (off + 1) vs

/-- The canonical form of a buffer: the offsets of its cells strictly rise. An unlisted offset has no specified value,
so no listed byte equals what it reads as. -/
abbrev Memory.wf (m : Memory) : Prop :=
  m.cells.Pairwise fun x y => x.1 < y.1

/-- `OBUF[0..OLEN)`: the result the host may read (R38, R53). -/
def State.result (s : State) : List Byte :=
  s.obuf.readBytes 0 s.olen

/-! ### The end of a command -/

/-- The `STATUS` code of an error (R191). -/
def EngineError.code : EngineError → Byte
  | .invalidKeyLength => 0x01#8
  | .invalidHexInput => 0x02#8
  | .invalidCiphertextLength => 0x03#8
  | .entropySourceFailure => 0x04#8
  | .noKey => 0x05#8
  | .illegalCommand => 0x06#8
  | .invalidOperandLength => 0x07#8

/-- `raise E`, the engine's trap entry (R195): `STATUS` takes the code, `OLEN` becomes 0, every byte of `OBUF` becomes
unspecified, and no other architectural state changes. There is no handler, no saved context and no return (R203). -/
def State.raise (s : State) (e : EngineError) : State :=
  { s with
    status := e.code
    olen := 0
    obuf := .blank .obuf s.epoch
    epoch := s.epoch + 1 }

/-- The end of a command that succeeds with the result `out` (R36, R37, R53): `OBUF[0..OLEN)` is the result and the
bytes past it become unspecified. -/
def State.complete (s : State) (out : List Byte) : State :=
  { s with
    status := 0x00#8
    olen := out.length
    obuf := (Memory.blank .obuf s.epoch).writeBytes 0 out
    epoch := s.epoch + 1 }

/-! ### The entropy draw -/

/-- The answer the entropy source gives if it is asked now (R175): the next one listed, or the free one of this
epoch. -/
def State.entropyAnswer (s : State) : EntropyAnswer :=
  s.entropy.headD (Config.freeEntropy s.epoch)

/-- The test harness says what the source will answer from here on (R88). -/
def State.setAnswers (s : State) (answers : List EntropyAnswer) : State :=
  { s with entropy := answers }

/-- The answer has been given: the next request gets another one. -/
def State.dropAnswer (s : State) : State :=
  { s with entropy := s.entropy.tail }

/-- `Entropy(8)` as the command sees it: 8 bytes, or failure; a short read is failure (R175). -/
def drawnBytes : EntropyAnswer → Option Block
  | .bytes b => some b
  | .short _ => none
  | .fail => none

end Sys2Proof.Machine
end

