-- ==== Sys2Proof/Machine/Flags.lean ====
section
/-! DEFINITION. The two flags, `KEYVALID` and `IVSET`, and the checks the commands make in the order of rule R197
(spec/10_state.md R29 to R31, spec/60_exceptions.md R197). There are no arithmetic flags (R31). -/

namespace Sys2Proof.Machine

/-- The instance check of the seven commands that need a schedule: `NoKey` when `KEYVALID` = 0 (R29, R200). It comes
before every length check (R197). -/
def requireKey (s : State) (body : Host.Outcome State Fault Refusal) : Host.Outcome State Fault Refusal :=
  if s.keyValid then body else .next (s.raise .noKey)

/-- An operand-length check: the error when the length is not one the command accepts (R197). -/
def requireLength (s : State) (ok : Bool) (e : EngineError) (body : Host.Outcome State Fault Refusal) :
    Host.Outcome State Fault Refusal :=
  if ok then body else .next (s.raise e)

/-- LOADKEY's commit: the schedule becomes the engine's, `KEYVALID` is set, `IVSET` is cleared and `IV` becomes
unspecified (R106). -/
def State.commitKey (s : State) (c : CipherState) : State :=
  { s with cipher := c, keyValid := true, ivSet := false, iv := freeBlock .iv s.epoch }

/-- SETIV's effect on the slot: the IV is stored and `IVSET` is set (R30, R170). -/
def State.storeIv (s : State) (iv : Block) : State :=
  { s with iv := iv, ivSet := true }

/-- ENCCBC's effect on the slot: the IV it uses, set or drawn, is in `IV`, and `IVSET` is cleared (R175, R178). -/
def State.consumeIv (s : State) (iv : Block) : State :=
  { s with iv := iv, ivSet := false }

end Sys2Proof.Machine
end

