-- ==== Sys2Proof/Machine/Operands.lean ====
section
/-! DEFINITION. The operand forms: where a command takes its operands from (spec/30_encoding.md R81,
spec/20_memory.md R54). -/

namespace Sys2Proof.Machine

/-- The key: `KBUF[0..KLEN)` (R54, R100). -/
def State.keyOperand (s : State) : List Byte :=
  s.kbuf.readBytes 0 s.klen

/-- The input: `IBUF[0..ILEN)` (R54, R81). -/
def State.inputOperand (s : State) : List Byte :=
  s.ibuf.readBytes 0 s.ilen

/-- The input block: `IBUF[0..8)`, of the commands whose `ILEN` must be 8 (R54, R127, R170). -/
def State.blockOperand (s : State) : Block :=
  s.ibuf.readBlock 0

end Sys2Proof.Machine
end

