-- ==== Sys2Proof/Machine/BlockCore.lean ====
section
/-! DEFINITION. The block core (spec/41_block_core.md): the round function, the two word-level transforms, their
byte-level wrappers, and the commands ENCBLK and DECBLK. -/

namespace Sys2Proof.Machine

/-- The entry of a substitution table that a byte lane selects (R25, R121). -/
def sboxEntry (t : SBox) (lane : Byte) : Word :=
  t[lane.toNat]'(lane.isLt)

/-- The round function `F(S, x)` (R121): four byte lanes, the most significant first; the sum of the S0 and S1 entries,
XOR the S2 entry, plus the S3 entry, all modulo 2^32 (R120). -/
def roundF (s : SBoxes) (x : Word) : Word :=
  ((sboxEntry s[0] (x.extractLsb' 24 8) + sboxEntry s[1] (x.extractLsb' 16 8)) ^^^
    sboxEntry s[2] (x.extractLsb' 8 8)) + sboxEntry s[3] (x.extractLsb' 0 8)

/-- `P[i]`. The rules use indices 0 to `ROUNDS + 1` = 17 only (R21, R123). -/
def roundKey (p : RoundKeys) (i : Nat) : Word :=
  p.toList.getD i 0

/-- One pass of the Feistel loop, two rounds (R122): `R <- R ^ F(S, L) ^ P[a]`, then `L <- L ^ F(S, R) ^ P[b]` with the
`R` just updated. The halves are the pair (L, R). -/
def feistelPass (c : CipherState) (a b : Nat) (lr : Word × Word) : Word × Word :=
  let r := lr.2 ^^^ roundF c.s lr.1 ^^^ roundKey c.p a
  let l := lr.1 ^^^ roundF c.s r ^^^ roundKey c.p b
  (l, r)

/-- `Encipher(P, S, L, R)` (R123): the passes use the round keys (1, 2), (3, 4), …, (15, 16), and the halves are
swapped at the end. -/
def encipher (c : CipherState) (lr : Word × Word) : Word × Word :=
  let lr := (List.range (Config.rounds / 2)).foldl (fun lr j => feistelPass c (2 * j + 1) (2 * j + 2) lr)
    (lr.1 ^^^ roundKey c.p 0, lr.2)
  (lr.2 ^^^ roundKey c.p (Config.rounds + 1), lr.1)

/-- `Decipher(P, S, L, R)` (R124): the same structure with the round keys in reverse order, (16, 15), (14, 13), …,
(2, 1). -/
def decipher (c : CipherState) (lr : Word × Word) : Word × Word :=
  let lr := (List.range (Config.rounds / 2)).foldl
    (fun lr j => feistelPass c (Config.rounds - 2 * j) (Config.rounds - 2 * j - 1) lr)
    (lr.1 ^^^ roundKey c.p (Config.rounds + 1), lr.2)
  (lr.2 ^^^ roundKey c.p 0, lr.1)

/-- `EncBlock(P, S, b)` (R126): the block's two big-endian halves enciphered. -/
def encBlock (c : CipherState) (b : Block) : Block :=
  let lr := encipher c (leftHalf b, rightHalf b)
  blockOfHalves lr.1 lr.2

/-- `DecBlock(P, S, b)` (R126): the block's two big-endian halves deciphered. -/
def decBlock (c : CipherState) (b : Block) : Block :=
  let lr := decipher c (leftHalf b, rightHalf b)
  blockOfHalves lr.1 lr.2

/-- ENCBLK (R127). -/
def execEncblk (s : State) : Host.Outcome State Fault Refusal :=
  requireKey s <| requireLength s (s.ilen == Config.blockBytes) .invalidOperandLength <|
    .next (s.complete (encBlock s.cipher s.blockOperand).toList)

/-- DECBLK (R128). -/
def execDecblk (s : State) : Host.Outcome State Fault Refusal :=
  requireKey s <| requireLength s (s.ilen == Config.blockBytes) .invalidOperandLength <|
    .next (s.complete (decBlock s.cipher s.blockOperand).toList)

end Sys2Proof.Machine
end

