-- ==== Sys2Proof/Machine/Padding.lean ====
section
/-! DEFINITION. The padding codec (spec/42_padding.md): `Pad`, `Unpad`, and the commands PAD, PADIV and UNPAD. The codec
is a function of its input bytes (R140). -/

namespace Sys2Proof.Machine

/-- The length of data and padding together: the smallest multiple of 8 strictly greater than n (R142). -/
def paddedLength (n : Nat) : Nat :=
  Config.blockBytes * (n / Config.blockBytes + 1)

/-- The fill byte: the last data byte XOR 0xCC, with `EMPTY_LAST` for the last byte of empty data (R143). -/
def fillByte (emptyLast : Byte) (data : List Byte) : Byte :=
  data.getLast?.getD emptyLast ^^^ Config.fillXor

/-- `Pad(data, false)` (R141). -/
def padBody (emptyLast : Byte) (data : List Byte) : List Byte :=
  data ++ List.replicate (paddedLength data.length - data.length) (fillByte emptyLast data)

/-- `Pad(data, true)` (R141): the reserved leading block, whatever its 8 bytes are (R144), and then the body. -/
def padWithSlot (emptyLast : Byte) (slot : Block) (data : List Byte) : List Byte :=
  slot.toList ++ padBody emptyLast data

/-- The backward scan of `Unpad` (R147): the bytes at i - 1, i - 2, … are compared with the final byte, and the scan
stops after the first that differs, or at the front of the buffer (R148). -/
def unpadScan (buf : List Byte) (last : Byte) : Nat → Nat
  | 0 => 0
  | i + 1 => if buf.getD i 0 = last then unpadScan buf last i else i + 1

/-- `Unpad(buf)` (R147), for a buffer of at least one byte; no command calls it on an empty one (R148). -/
def unpad (buf : List Byte) : Nat :=
  unpadScan buf (buf.getLast?.getD 0) buf.length

/-- PAD (R145). -/
def execPad (s : State) : Host.Outcome State Fault Refusal :=
  .next (s.complete (padBody s.params.emptyLast s.inputOperand))

/-- PADIV (R146): the reserved block is any 8 bytes, a free value of this epoch (R144, U1). -/
def execPadiv (s : State) : Host.Outcome State Fault Refusal :=
  .next (s.complete (padWithSlot s.params.emptyLast (freeBlock .slot s.epoch) s.inputOperand))

/-- UNPAD (R149): the input cut to its logical length. -/
def execUnpad (s : State) : Host.Outcome State Fault Refusal :=
  requireLength s (s.ilen != 0) .invalidOperandLength <|
    .next (s.complete (s.inputOperand.take (unpad s.inputOperand)))

end Sys2Proof.Machine
end

