-- ==== Sys2Proof/Machine/Cbc.lean ====
section
/-! DEFINITION. CBC mode and the IV slot (spec/44_cbc.md): the two chains and the commands SETIV, ENCCBC and DECCBC. -/

namespace Sys2Proof.Machine

/-- SETIV (R170): any 8 bytes are a legal IV (R171). -/
def execSetiv (s : State) : Host.Outcome State Fault Refusal :=
  requireKey s <| requireLength s (s.ilen == Config.blockBytes) .invalidOperandLength <|
    .next ((s.storeIv s.blockOperand).complete [])

/-- The chaining of ENCCBC (R177): `C[k] = EncBlock(P, S, xor8(M[k], C[k-1]))`, in ascending order. -/
def cbcEncipher (c : CipherState) (previous : Block) : List Block → List Block
  | [] => []
  | m :: ms =>
    let x := encBlock c (xor8 m previous)
    x :: cbcEncipher c x ms

/-- The un-chaining of DECCBC (R183): `M[k] = xor8(DecBlock(P, S, C[k]), C[k-1])`; the chaining value is the previous
ciphertext block. -/
def cbcDecipher (c : CipherState) (current : Block) : List Block → List Block
  | [] => []
  | next :: rest => xor8 (decBlock c next) current :: cbcDecipher c next rest

/-- `WBUF[0..8) <- iv`: the reserved leading block takes the IV (R176). -/
def embedIv (iv : Block) (wbuf : List Byte) : List Byte :=
  iv.toList ++ wbuf.drop Config.blockBytes

/-- A loop over the blocks of the working buffer from the second one on, block 0 left as it is and taken as the first
chaining value (R177, R182). -/
def cbcLoop (chain : Block → List Block → List Block) (wbuf : List Byte) : List Byte :=
  match blocksOf wbuf with
  | [] => []
  | iv :: rest => bytesOf (iv :: chain iv rest)

/-- ENCCBC once its IV is known (R173, steps 2 to 4): the IV is consumed, the padded data chained and enciphered. -/
def encryptCbc (s : State) (iv : Block) : State :=
  let wbuf := embedIv iv (padWithSlot s.params.emptyLast (freeBlock .slot s.epoch) s.inputOperand)
  (s.consumeIv iv).complete (cbcLoop (cbcEncipher s.cipher) wbuf)

/-- ENCCBC (R173): with `IVSET` = 1 the stored IV, otherwise one draw, which may fail (R174, R175). -/
def execEnccbc (s : State) : Host.Outcome State Fault Refusal :=
  requireKey s <|
    if s.ivSet then .next (encryptCbc s s.iv)
    else match drawnBytes s.entropyAnswer with
      | none => .next (s.dropAnswer.raise .entropySourceFailure)
      | some iv => .next (encryptCbc s.dropAnswer iv)

/-- The lengths DECCBC accepts: the multiples of 8 from 16 on (R181). -/
def cbcLengthOk (n : Nat) : Bool :=
  n % Config.blockBytes == 0 && Config.cbcMinCt ≤ n

/-- DECCBC (R180): un-chain, unpad the whole working buffer, and drop the IV block, the boundary held at 8 from below
(R184). -/
def execDeccbc (s : State) : Host.Outcome State Fault Refusal :=
  requireKey s <| requireLength s (cbcLengthOk s.ilen) .invalidCiphertextLength <|
    let wbuf := cbcLoop (cbcDecipher s.cipher) s.inputOperand
    let m := max (unpad wbuf) Config.blockBytes
    .next (s.complete ((wbuf.take m).drop Config.blockBytes))

end Sys2Proof.Machine
end

