-- ==== Sys2Proof/Machine/Ecb.lean ====
section
/-! DEFINITION. ECB mode (spec/43_ecb.md): the block loop and the commands ENCECB and DECECB. -/

namespace Sys2Proof.Machine

/-- The ECB loop (R161): every block of the working buffer transformed on its own, in ascending order. -/
def ecbLoop (f : Block → Block) (wbuf : List Byte) : List Byte :=
  bytesOf ((blocksOf wbuf).map f)

/-- ENCECB (R160): pad without a slot, encipher every block. -/
def execEncecb (s : State) : Host.Outcome State Fault Refusal :=
  requireKey s <|
    .next (s.complete (ecbLoop (encBlock s.cipher) (padBody s.params.emptyLast s.inputOperand)))

/-- The lengths DECECB accepts: the positive multiples of 8 (R164). -/
def ecbLengthOk (n : Nat) : Bool :=
  n % Config.blockBytes == 0 && n != 0

/-- DECECB (R163): decipher every block, then cut the padding off. -/
def execDececb (s : State) : Host.Outcome State Fault Refusal :=
  requireKey s <| requireLength s (ecbLengthOk s.ilen) .invalidCiphertextLength <|
    let wbuf := ecbLoop (decBlock s.cipher) s.inputOperand
    .next (s.complete (wbuf.take (unpad wbuf)))

end Sys2Proof.Machine
end

