-- ==== Sys2Proof/Machine/KeySchedule.lean ====
section
/-! DEFINITION. The key schedule (spec/40_key_schedule.md): the expansion of a key into `P` and `S`, and the command
LOADKEY. -/

namespace Sys2Proof.Machine

/-- Key byte `j` of the key cycled modulo its length (R103). -/
def keyByte (key : List Byte) (j : Nat) : Byte :=
  key.getD (j % key.length) 0

/-- The word XORed into `P[i]`: four key bytes, the first most significant, the cursor running on from word to word
(R58, R103). -/
def keyWord (key : List Byte) (i : Nat) : Word :=
  be32 (keyByte key (4 * i)) (keyByte key (4 * i + 1)) (keyByte key (4 * i + 2)) (keyByte key (4 * i + 3))

/-- Step 2: the key mixed into the round keys (R103). -/
def mixKey (initP : RoundKeys) (key : List Byte) : RoundKeys :=
  Vector.ofFn fun i => initP[i] ^^^ keyWord key i.val

/-- The schedule under construction, with its running block (R104). -/
structure Schedule where
  cipher : CipherState
  running : Word × Word
  deriving DecidableEq, Repr

/-- One encipherment of step 3: the halves overwrite `P[i]` and `P[i+1]` (R104). -/
def fillRoundKeys (w : Schedule) (i : Nat) : Schedule :=
  let lr := encipher w.cipher w.running
  { cipher := { w.cipher with p := (w.cipher.p.setIfInBounds i lr.1).setIfInBounds (i + 1) lr.2 }, running := lr }

/-- One encipherment of step 4: the halves overwrite `S[k][i]` and `S[k][i+1]` (R105). -/
def fillSbox (k : Fin 4) (w : Schedule) (i : Nat) : Schedule :=
  let lr := encipher w.cipher w.running
  let t := (w.cipher.s[k].setIfInBounds i lr.1).setIfInBounds (i + 1) lr.2
  { cipher := { w.cipher with s := w.cipher.s.set k t }, running := lr }

/-- Steps 1 and 2: the constants loaded, the key mixed in, the running block zero (R102 to R104). -/
def scheduleStart (initP : RoundKeys) (initS : SBoxes) (key : List Byte) : Schedule :=
  { cipher := { p := mixKey initP key, s := initS }, running := (0, 0) }

/-- Step 3: i = 0, 2, …, 16 (R104). -/
def scheduleRoundKeys (w : Schedule) : Schedule :=
  (List.range (Config.rounds / 2 + 1)).foldl (fun w j => fillRoundKeys w (2 * j)) w

/-- Step 4 for one table: i = 0, 2, …, 254 (R105). -/
def scheduleTable (k : Fin 4) (w : Schedule) : Schedule :=
  (List.range 128).foldl (fun w j => fillSbox k w (2 * j)) w

/-- The schedule derived from a key: 521 encipherments, the round keys first, then S0, S1, S2, S3 (R100, R105). The
initial constants are its arguments, an open parameter (R108, D6). -/
@[irreducible] def deriveSchedule (initP : RoundKeys) (initS : SBoxes) (key : List Byte) : CipherState :=
  ([0, 1, 2, 3].foldl (fun w k => scheduleTable k w)
    (scheduleRoundKeys (scheduleStart initP initS key))).cipher

/-- LOADKEY (R100, R101, R106). -/
def execLoadkey (s : State) : Host.Outcome State Fault Refusal :=
  requireLength s (Config.keyMin ≤ s.klen && s.klen ≤ Config.keyMax) .invalidKeyLength <|
    .next ((s.commitKey (deriveSchedule s.params.initP s.params.initS s.keyOperand)).complete [])

end Sys2Proof.Machine
end

