-- ==== Sys2Proof/Machine/Dispatch.lean ====
section
/-! DEFINITION. The dispatch of a command to its meaning (spec/30_encoding.md R82). -/

namespace Sys2Proof.Machine

def exec (i : Instr) (s : State) : Host.Outcome State Fault Refusal :=
  match i with
  | .loadkey => Sys2Proof.Machine.execLoadkey s
  | .setiv => Sys2Proof.Machine.execSetiv s
  | .encblk => Sys2Proof.Machine.execEncblk s
  | .decblk => Sys2Proof.Machine.execDecblk s
  | .pad => Sys2Proof.Machine.execPad s
  | .padiv => Sys2Proof.Machine.execPadiv s
  | .unpad => Sys2Proof.Machine.execUnpad s
  | .encecb => Sys2Proof.Machine.execEncecb s
  | .dececb => Sys2Proof.Machine.execDececb s
  | .enccbc => Sys2Proof.Machine.execEnccbc s
  | .deccbc => Sys2Proof.Machine.execDeccbc s

end Sys2Proof.Machine
end

