-- ==== Sys2Proof/Machine/HostInterface.lean ====
section
/-! DEFINITION. The host's side of the interface: what a host move does to the state (spec/10_state.md R34 to R38,
spec/60_exceptions.md R221), the reset line (spec/70_reset_and_hazards.md R230, R231), and what cannot be presented to
the engine (spec/00_scope.md R12, spec/20_memory.md R55). -/

namespace Sys2Proof.Machine

/-- The length of a command's result for an input of length n; for the commands that cut padding off, its upper bound
(R82, R163, R180). -/
def resultLength (i : Instr) (n : Nat) : Nat :=
  match i with
  | .loadkey | .setiv => 0
  | .encblk | .decblk => Config.blockBytes
  | .pad | .encecb => paddedLength n
  | .padiv | .enccbc => paddedLength n + Config.blockBytes
  | .unpad | .dececb => n - 1
  | .deccbc => n - 9

/-- What keeps a command from being presented to the engine, if anything: a number of rounds that no rule gives a
meaning (R12, U10), or, on a platform bounded by `MAXLEN`, an `ILEN` beyond it or a result beyond the `MAXLEN + 16` bytes
of `OBUF` (R55, D24, U18). The second never happens without the first (`resultLength_le`). -/
def hostRefusal (rounds : Nat) (maxLen : Option Nat) (i : Instr) (ilen : Nat) : Option Refusal :=
  if rounds ≠ 16 then some .unsupportedRounds
  else match maxLen with
    | none => none
    | some m => if m < ilen ∨ m + 16 < resultLength i ilen then some .beyondCapacity else none

/-- The reset line (R230, R231): the reset state of this epoch, with the same parameters (R28). The host's remaining moves and the entropy source's
remaining answers are not the engine's, so they stay. -/
def State.resetLine (s : State) : State :=
  { State.resetAt s.params s.epoch with inbox := s.inbox, entropy := s.entropy }

/-- A host write of `KBUF` (R38). -/
def State.setKbufByte (s : State) (off : Nat) (v : Byte) : State :=
  { s with kbuf := s.kbuf.write off v }

/-- A host write of `IBUF` (R38). -/
def State.setIbufByte (s : State) (off : Nat) (v : Byte) : State :=
  { s with ibuf := s.ibuf.write off v }

/-- A host write of `KLEN` (R35). -/
def State.setKlen (s : State) (n : Nat) : State :=
  { s with klen := n }

/-- A host write of `ILEN` (R35). -/
def State.setIlen (s : State) (n : Nat) : State :=
  { s with ilen := n }

/-- The host has made its next move. -/
def State.dropMove (s : State) : State :=
  { s with inbox := s.inbox.tail }

/-- The effect of a host move that starts no command. (`writeCmd` starts one: the step runs it.) -/
def hostMoved (m : HostMove) (s : State) : State :=
  match m with
  | .writeKbuf off v => s.setKbufByte off v
  | .writeIbuf off v => s.setIbufByte off v
  | .writeKlen n => s.setKlen n
  | .writeIlen n => s.setIlen n
  | .writeCmd _ => s
  | .reset => s.resetLine
  | .sourceAnswers answers => s.setAnswers answers

/-- The moves by which a host places a byte sequence in `KBUF`, from an offset on (R221). -/
def keyMoves (off : Nat) : List Byte → List HostMove
  | [] => []
  | v :: vs => .writeKbuf off v :: keyMoves (off + 1) vs

/-- The moves by which a host places a byte sequence in `IBUF`, from an offset on (R221). -/
def inputMoves (off : Nat) : List Byte → List HostMove
  | [] => []
  | v :: vs => .writeIbuf off v :: inputMoves (off + 1) vs

/-- The moves of an assembler line (R88): the answer it says the entropy source would return if asked, and no answer of
an earlier line; the operand and its length, in `KBUF` and `KLEN` for LOADKEY and in `IBUF` and `ILEN` for every other
command; then the command byte. -/
def lineMoves (l : AsmLine) : List HostMove :=
  .sourceAnswers l.entropy.toList :: (match l.instr with
    | .loadkey => keyMoves 0 l.operand ++ [.writeKlen l.operand.length]
    | .setiv | .encblk | .decblk | .pad | .padiv | .unpad | .encecb | .dececb | .enccbc | .deccbc =>
      inputMoves 0 l.operand ++ [.writeIlen l.operand.length])
    ++ [.writeCmd (encode l.instr)]

/-- A test program of the spec (R88) about to run: the moves of its lines, one after the other. -/
def State.withProgram (s : State) (lines : List AsmLine) : State :=
  { s with inbox := lines.flatMap lineMoves }

end Sys2Proof.Machine
end

