-- ==== Sys2Proof/Machine/Step.lean ====
section
/-! DEFINITION. One step of the machine: the host's next move, a whole command being one atomic step (spec/00_scope.md
R10 and R16, spec/10_state.md R33, spec/30_encoding.md R87). -/

namespace Sys2Proof.Machine

/-- The host has written `c` to `CMD`: the engine decodes it and runs the command (R34, R87); a reserved byte raises
`IllegalCommand`, the first of the checks (R84, R197). A command the platform cannot hold is refused before it runs
(R55). -/
def runCommand (c : Byte) (s : State) : Host.Outcome State Fault Refusal :=
  match decode c with
  | .error _ => .next (s.raise .illegalCommand)
  | .ok i =>
    match hostRefusal Config.rounds s.params.maxLen i s.ilen with
    | some r => .refused r
    | none => exec i s

/-- One step: the host's next move. When the host makes none, nothing happens (R33, R41; DESIGN CHOICE: the model then
steps to the same state, notes/assumptions/3.md). -/
def step (s : State) : Host.Outcome State Fault Refusal :=
  match s.inbox with
  | [] => .next s
  | .writeCmd c :: _ => runCommand c s.dropMove
  | m :: _ => .next (hostMoved m s.dropMove)

/-- The state in which the host's very next move is to write the command byte of a row of spec/opcode_table.json to
`CMD`; its operands are whatever the buffers and the length registers hold (R81). -/
def State.withFetchWord (s : State) (_nbits w : Nat) : State :=
  { s with inbox := .writeCmd (BitVec.ofNat 8 w) :: s.inbox }

end Sys2Proof.Machine
end

