-- ==== Sys2Proof/Machine/PseudoCommands.lean ====
section
/-! DEFINITION. The pseudo-commands (spec/30_encoding.md R93 to R96): the original software's outer calls, each a sequence
of commands with work done outside the engine. The hexadecimal helpers are out of the spec's scope (spec/00_scope.md
R7); what the spec says of them stands here, and nothing of the machine uses it (notes/assumptions/9.md). -/

namespace Sys2Proof.Machine

/-- The host has placed the operand of a command and its length (R221). -/
def placeOperand (i : Instr) (operand : List Byte) (s : State) : State :=
  match i with
  | .loadkey => { s with kbuf := s.kbuf.writeBytes 0 operand, klen := operand.length }
  | .setiv | .encblk | .decblk | .pad | .padiv | .unpad | .encecb | .dececb | .enccbc | .deccbc =>
    { s with ibuf := s.ibuf.writeBytes 0 operand, ilen := operand.length }

/-- One command issued: the operand placed, the command run (R88, R221). The entropy source gives what it gives. -/
def issue (i : Instr) (operand : List Byte) (s : State) : Host.Outcome State Fault Refusal :=
  runCommand (encode i) (placeOperand i operand s)

/-- `NEWCIPHER key` (R93). -/
def newCipher (key : List Byte) (s : State) : Host.Outcome State Fault Refusal :=
  issue .loadkey key s

/-- `LOADKEY key` followed by a mode command on the same engine, whatever LOADKEY has reported (R96). -/
def keyThenMode (key : List Byte) (mode : Instr) (operand : List Byte) (s : State) : Host.Outcome State Fault Refusal :=
  match newCipher key s with
  | .next t => issue mode operand t
  | .fault f => .fault f
  | .refused r => .refused r

/-- `encryptECB(key, data)` (R96). -/
def encryptEcbWithKey (key data : List Byte) (s : State) : Host.Outcome State Fault Refusal :=
  keyThenMode key .encecb data s

/-- `decryptECB(key, data)` (R96). -/
def decryptEcbWithKey (key ciphertext : List Byte) (s : State) : Host.Outcome State Fault Refusal :=
  keyThenMode key .dececb ciphertext s

/-- `encryptCBC(key, data)` (R96). -/
def encryptCbcWithKey (key data : List Byte) (s : State) : Host.Outcome State Fault Refusal :=
  keyThenMode key .enccbc data s

/-- `decryptCBC(key, data)` (R96). -/
def decryptCbcWithKey (key ciphertext : List Byte) (s : State) : Host.Outcome State Fault Refusal :=
  keyThenMode key .deccbc ciphertext s

/-- The call across the foreign-function boundary (R95): `LOADKEY key`, then, if `STATUS` = 0, `DECCBC ciphertext`. -/
def foreignDecrypt (key ciphertext : List Byte) (s : State) : Host.Outcome State Fault Refusal :=
  match newCipher key s with
  | .next t => if t.status = 0x00#8 then issue .deccbc ciphertext t else .next t
  | .fault f => .fault f
  | .refused r => .refused r

/-! ### The hexadecimal helpers -/

/-- What a hexadecimal helper reports instead of bytes. -/
inductive HexError where
  /-- `InvalidHexInput`: a string of odd length (R93, R198). -/
  | oddLength
  /-- A character other than 0 to 9 and A to F: the spec does not say what the helper makes of it
  (spec/91_not_in_source.md N14, U22). Safe: the model gives no result. -/
  | unspecifiedCharacter (c : Char)
  deriving DecidableEq, Repr

/-- An upper-case hexadecimal digit (R94). -/
def hexDigit (n : Nat) : Char :=
  ['0', '1', '2', '3', '4', '5', '6', '7', '8', '9', 'A', 'B', 'C', 'D', 'E', 'F'].getD n '0'

/-- Two upper-case digits a byte, no separators (R94). -/
def hexEncode (bytes : List Byte) : List Char :=
  bytes.flatMap fun b => [hexDigit (b.toNat / 16), hexDigit (b.toNat % 16)]

/-- The value of an upper-case hexadecimal digit. -/
def hexValue (c : Char) : Except HexError Nat :=
  if '0' ≤ c ∧ c ≤ '9' then .ok (c.toNat - 48)
  else if 'A' ≤ c ∧ c ≤ 'F' then .ok (c.toNat - 55)
  else .error (.unspecifiedCharacter c)

/-- The digit pairs of a string of even length. -/
def hexPairs : List Char → Except HexError (List Byte)
  | [] => .ok []
  | [_] => .error .oddLength
  | hi :: lo :: rest => do
    let h ← hexValue hi
    let l ← hexValue lo
    let bs ← hexPairs rest
    .ok (BitVec.ofNat 8 (16 * h + l) :: bs)

/-- The decoding helper: an odd length is reported before anything else (R93). -/
def hexDecode (str : List Char) : Except HexError (List Byte) :=
  if str.length % 2 = 1 then .error .oddLength else hexPairs str

/-- `NEWCIPHERHEX str` (R93): the helper decodes, failing before the engine is touched, then LOADKEY. -/
def newCipherHex (str : List Char) (s : State) : Except HexError (Host.Outcome State Fault Refusal) :=
  (hexDecode str).map fun key => newCipher key s

/-- The encrypt side of the string API (R94): ENCCBC, then `OBUF[0..OLEN)` in hexadecimal if it succeeded. -/
def encryptHexString (data : List Byte) (s : State) : Host.Outcome (State × List Char) Fault Refusal :=
  match issue .enccbc data s with
  | .next t => .next (t, if t.status = 0 then hexEncode t.result else [])
  | .fault f => .fault f
  | .refused r => .refused r

/-- The decrypt side of the string API (R94): hexadecimal decoding, then DECCBC. -/
def decryptHexString (str : List Char) (s : State) : Except HexError (Host.Outcome State Fault Refusal) :=
  (hexDecode str).map fun ciphertext => issue .deccbc ciphertext s

end Sys2Proof.Machine
end

