-- ==== Sys2Proof/Safety.lean ====
section
/-! DEFINITION. The terms in which statements speak of a run: what a command leaves unchanged, what a success and an
error leave, and the invariant every step keeps (spec/10_state.md R42 and R43, spec/20_memory.md R51 to R53,
spec/60_exceptions.md R195). -/

namespace Sys2Proof.Machine

/-- The instance is as it was: `P`, `S`, `KEYVALID`, `IV` and `IVSET`. -/
structure KeepsInstance (s t : State) : Prop where
  cipher : t.cipher = s.cipher
  keyValid : t.keyValid = s.keyValid
  iv : t.iv = s.iv
  ivSet : t.ivSet = s.ivSet

/-- What the host wrote is as it was: the lengths and every byte of `KBUF` and `IBUF` (R35, R51); and so are the host's
moves still to come and the open parameters (R28). -/
structure KeepsInputs (s t : State) : Prop where
  klen : t.klen = s.klen
  ilen : t.ilen = s.ilen
  kbuf : ∀ a, t.kbuf.read a = s.kbuf.read a
  ibuf : ∀ a, t.ibuf.read a = s.ibuf.read a
  inbox : t.inbox = s.inbox
  params : t.params = s.params

/-- The platform can hold the input length, so that a command can be presented to the engine (R55, D24,
notes/assumptions/7.md). -/
def Presentable (s : State) : Prop :=
  ∀ m, s.params.maxLen = some m → s.ilen ≤ m

/-- `KBUF[0..KLEN)` is the key (R38, R54). -/
structure KeyIs (s : State) (key : List Byte) : Prop where
  length : s.klen = key.length
  bytes : ∀ (i : Nat) (h : i < key.length), s.kbuf.read i = key[i]

/-- `IBUF[0..ILEN)` is the input (R38, R54). -/
structure InputIs (s : State) (data : List Byte) : Prop where
  length : s.ilen = data.length
  bytes : ∀ (i : Nat) (h : i < data.length), s.ibuf.read i = data[i]

/-- Block k of a byte sequence, `x[8k..8k+8)` (R61). It is looked at only where the sequence has those bytes. -/
def blockAt (x : List Byte) (k : Nat) : Block :=
  Vector.ofFn fun i => x.getD (8 * k + i.val) 0

/-- A success with the result `out` (R36, R37, R53): `STATUS` is 0x00, `OBUF[0..OLEN)` is the result, and no byte past
it has a specified value. -/
structure Delivers (t : State) (out : List Byte) : Prop where
  status : t.status = 0x00#8
  olen : t.olen = out.length
  bytes : ∀ (i : Nat) (h : i < out.length), t.obuf.read i = out[i]
  past : ∀ a, out.length ≤ a → t.obuf.get? a = none

/-- The error `e` (R195): `STATUS` holds its code, `OLEN` is 0, no byte of `OBUF` has a specified value, and neither the
instance nor what the host wrote has changed. -/
structure Raises (s t : State) (e : EngineError) : Prop where
  status : t.status = e.code
  olen : t.olen = 0
  obuf : ∀ a, t.obuf.get? a = none
  keepsInstance : KeepsInstance s t
  inputs : KeepsInputs s t

/-- The seven commands that need a schedule (R29, R200). -/
def needsKey : Instr → Bool
  | .setiv | .encblk | .decblk | .encecb | .dececb | .enccbc | .deccbc => true
  | .loadkey | .pad | .padiv | .unpad => false

/-- The operand lengths a command accepts (R197, R199): of the key for LOADKEY, of the input for the others. -/
def acceptsLengths (i : Instr) (s : State) : Bool :=
  match i with
  | .loadkey => decide (1 ≤ s.klen ∧ s.klen ≤ 56)
  | .setiv | .encblk | .decblk => decide (s.ilen = 8)
  | .pad | .padiv | .encecb | .enccbc => true
  | .unpad => decide (s.ilen ≠ 0)
  | .dececb => decide (s.ilen % 8 = 0 ∧ s.ilen ≠ 0)
  | .deccbc => decide (s.ilen % 8 = 0 ∧ 16 ≤ s.ilen)

/-- The error a command reports when its operand length is not one it accepts (R197); none for the commands that
accept every length. -/
def lengthError : Instr → Option EngineError
  | .loadkey => some .invalidKeyLength
  | .setiv | .encblk | .decblk | .unpad => some .invalidOperandLength
  | .dececb | .deccbc => some .invalidCiphertextLength
  | .pad | .padiv | .encecb | .enccbc => none

/-- The errors a command can report: the table of rule R202. -/
def possibleErrors : Instr → List EngineError
  | .loadkey => [.invalidKeyLength]
  | .setiv | .encblk | .decblk => [.noKey, .invalidOperandLength]
  | .pad | .padiv => []
  | .unpad => [.invalidOperandLength]
  | .encecb => [.noKey]
  | .dececb | .deccbc => [.noKey, .invalidCiphertextLength]
  | .enccbc => [.noKey, .entropySourceFailure]

/-- What holds of the engine in every state it can reach. -/
structure Inv (s : State) : Prop where
  /-- The buffers keep their canonical form. -/
  kbufWf : s.kbuf.wf
  ibufWf : s.ibuf.wf
  obufWf : s.obuf.wf
  /-- Each buffer is itself. -/
  kbufSite : s.kbuf.site = .kbuf
  ibufSite : s.ibuf.site = .ibuf
  obufSite : s.obuf.site = .obuf
  /-- `KEYVALID` = 0 implies `IVSET` = 0 (R43). -/
  ivNeedsKey : s.keyValid = false → s.ivSet = false
  /-- `STATUS` is 0x00, 0x01 or 0x03 to 0x07 (R37, R191, R198). -/
  statusCode : s.status.toNat ≤ 7 ∧ s.status.toNat ≠ 2
  /-- After an error there is no output (R36, R195). -/
  errorEmpty : s.status ≠ 0x00#8 → s.olen = 0
  /-- `OBUF[0..OLEN)` is written completely, and nothing past it is specified (R53). -/
  resultWritten : ∀ a, (s.obuf.get? a).isSome = true ↔ a < s.olen

end Sys2Proof.Machine
end

