-- ==== Sys2Proof/Certificates/Slice0/Obligations.lean ====
section
/-! DEFINITION. The statements for the provers. Each says which rules of spec/ it formalises; a statement that rests on a
choice of the model names the log entry. -/

open Sys2Proof Sys2Proof.Machine

/-! ### Decoding and the step -/

/-- The opcode map of R82, word by word, and one word on each side of it. -/
def Obligations.DecoderReadsTheOpcodeMap : Prop :=
  decodeTableWord 8 0x01 = some .loadkey ∧ decodeTableWord 8 0x02 = some .setiv ∧
  decodeTableWord 8 0x03 = some .encblk ∧ decodeTableWord 8 0x04 = some .decblk ∧
  decodeTableWord 8 0x05 = some .pad ∧ decodeTableWord 8 0x06 = some .padiv ∧
  decodeTableWord 8 0x07 = some .unpad ∧ decodeTableWord 8 0x08 = some .encecb ∧
  decodeTableWord 8 0x09 = some .dececb ∧ decodeTableWord 8 0x0A = some .enccbc ∧
  decodeTableWord 8 0x0B = some .deccbc ∧ decodeTableWord 8 0x00 = none ∧ decodeTableWord 8 0x0C = none

/-- R87: the decoder answers the command whose opcode the byte is, and names the byte as reserved otherwise; every
well-formed command is what its own byte decodes to. -/
def Obligations.DecodeAndEncodeAgree : Prop :=
  (∀ i : Instr, i.wf = true → decode (encode i) = .ok i) ∧
  (∀ (c : Byte) (i : Instr), decode c = .ok i → c = encode i) ∧
  (∀ c : Byte, (∀ i : Instr, c ≠ encode i) → decode c = .error (.reserved c))

/-- When the host's next move is to write a command byte that decodes to a well-formed command, and the platform can hold
the input length, the step is that command's meaning on the state in which the host has made that move (R34, R87). What
a platform can hold is R55 as notes/assumptions/7.md reads it; by default every length. -/
def Obligations.StepRunsTheDecodedCommand : Prop :=
  ∀ (s : State) (c : Byte) (rest : List HostMove) (i : Instr),
    s.inbox = .writeCmd c :: rest → decode c = .ok i → i.wf = true → Presentable s →
    step s = exec i { s with inbox := rest }

/-- R84, R201: a reserved command byte raises `IllegalCommand`, `STATUS` 0x06, and changes nothing else. -/
def Obligations.ReservedByteRaisesIllegalCommand : Prop :=
  ∀ (s : State) (c : Byte) (rest : List HostMove),
    s.inbox = .writeCmd c :: rest → (c.toNat = 0 ∨ 12 ≤ c.toNat) →
    ∃ t, step s = .next t ∧ t.status = 0x06#8 ∧ Raises { s with inbox := rest } t .illegalCommand ∧
      t.entropy = s.entropy

/-- When the host makes no move the machine stays as it is: the model's choice of what a step is then (DESIGN CHOICE,
notes/assumptions/3.md; R33, R41). -/
def Obligations.NoHostMoveNoChange : Prop :=
  ∀ s : State, s.inbox = [] → step s = .next s

/-- The host's writes (R34, R35, R38, R66): a byte of `KBUF` or `IBUF`, `KLEN` or `ILEN` takes the value written, and
nothing else changes; and the annotation of an assembler line (R88) replaces what the entropy source will answer, and
nothing else (DESIGN CHOICE, notes/assumptions/4.md). -/
def Obligations.HostWritesReachTheirTarget : Prop :=
  ∀ (s : State) (rest : List HostMove) (off n : Nat) (v : Byte) (answers : List EntropyAnswer),
    (s.inbox = .writeKbuf off v :: rest → ∃ m, step s = .next { s with kbuf := m, inbox := rest } ∧
      m.read off = v ∧ ∀ a, a ≠ off → m.read a = s.kbuf.read a) ∧
    (s.inbox = .writeIbuf off v :: rest → ∃ m, step s = .next { s with ibuf := m, inbox := rest } ∧
      m.read off = v ∧ ∀ a, a ≠ off → m.read a = s.ibuf.read a) ∧
    (s.inbox = .writeKlen n :: rest → step s = .next { s with klen := n, inbox := rest }) ∧
    (s.inbox = .writeIlen n :: rest → step s = .next { s with ilen := n, inbox := rest }) ∧
    (s.inbox = .sourceAnswers answers :: rest → step s = .next { s with entropy := answers, inbox := rest })

/-- The reset line (R230, R231): the flags, the lengths and `STATUS` take their reset values, no byte of a buffer has a
specified value, and the host's remaining moves, the source's remaining answers (notes/assumptions/3.md) and the open
parameters (R28) stay. -/
def Obligations.ResetLineGivesResetValues : Prop :=
  ∀ (s : State) (rest : List HostMove), s.inbox = .reset :: rest →
    ∃ t, step s = .next t ∧ t.keyValid = false ∧ t.ivSet = false ∧ t.status = 0x00#8 ∧ t.olen = 0 ∧
      t.klen = 0 ∧ t.ilen = 0 ∧
      (∀ a, t.kbuf.get? a = none ∧ t.ibuf.get? a = none ∧ t.obuf.get? a = none) ∧
      t.inbox = rest ∧ t.entropy = s.entropy ∧ t.params = s.params

/-- The state after the first reset (R231): what the rule gives a value; and the open parameters at their defaults (R11;
DESIGN CHOICE, notes/assumptions/5.md to 7.md). -/
def Obligations.ResetStateHasItsValues : Prop :=
  State.reset.keyValid = false ∧ State.reset.ivSet = false ∧ State.reset.status = 0x00#8 ∧
  State.reset.olen = 0 ∧ State.reset.klen = 0 ∧ State.reset.ilen = 0 ∧
  State.reset.params =
    { initP := Config.initP, initS := Config.initS, emptyLast := 0x00#8, maxLen := none } ∧
  ∀ a, State.reset.kbuf.get? a = none ∧ State.reset.ibuf.get? a = none ∧ State.reset.obuf.get? a = none

/-- No command stops (R73, R90, R190), and its result is at most 16 bytes longer than `ILEN`; and every step answers a
next state but in the one case of R55 and D24, a command on a platform that cannot hold its `ILEN`, which is refused
(notes/assumptions/7.md). -/
def Obligations.EveryStepAnswersANextState : Prop :=
  (∀ (i : Instr) (s : State), ∃ t, exec i s = .next t ∧ t.olen ≤ s.ilen + 16) ∧
  ∀ s : State,
    ((∃ m, s.params.maxLen = some m ∧ m < s.ilen) ∧ (∃ i rest, s.inbox = .writeCmd (encode i) :: rest) →
      step s = .refused .beyondCapacity) ∧
    (¬((∃ m, s.params.maxLen = some m ∧ m < s.ilen) ∧ ∃ i rest, s.inbox = .writeCmd (encode i) :: rest) →
      ∃ t, step s = .next t)

/-! ### Invariants and the life of the state -/

/-- The reset state meets the invariant. -/
def Obligations.ResetMeetsTheInvariant : Prop :=
  Inv State.reset

/-- Every step keeps the invariant: canonical buffers, R43, the `STATUS` codes of R37, no output after an error, and
`OBUF[0..OLEN)` written completely (R53); and no step changes the open parameters (R28). -/
def Obligations.StepKeepsTheInvariant : Prop :=
  ∀ s t : State, step s = .next t → t.params = s.params ∧ (Inv s → Inv t)

/-- R23: only a successful LOADKEY changes the schedule; a reset is no command. -/
def Obligations.ScheduleChangesOnlyInLoadkey : Prop :=
  ∀ s t : State, step s = .next t →
    (∀ rest, s.inbox ≠ .reset :: rest) →
    ¬((∃ rest, s.inbox = .writeCmd 0x01#8 :: rest) ∧ t.status = 0x00#8) →
    t.cipher = s.cipher

/-- R29, R232: `KEYVALID` is 1 after a step exactly when the step is no reset and it was 1 before or the step is a
LOADKEY that succeeds. -/
def Obligations.KeyValidTellsThatALoadkeySucceeded : Prop :=
  ∀ s t : State, step s = .next t →
    (t.keyValid = true ↔ (∀ rest, s.inbox ≠ .reset :: rest) ∧
      (s.keyValid = true ∨ ((∃ rest, s.inbox = .writeCmd 0x01#8 :: rest) ∧ t.status = 0x00#8)))

/-- R30: `IVSET` is 1 after a step exactly when the step is a SETIV that succeeds, or it was 1 before and the step is
neither a reset nor a LOADKEY or ENCCBC that succeeds. -/
def Obligations.IvSetHasTheLifeOfTheSpec : Prop :=
  ∀ s t : State, step s = .next t →
    (t.ivSet = true ↔
      ((∃ rest, s.inbox = .writeCmd 0x02#8 :: rest) ∧ t.status = 0x00#8) ∨
      (s.ivSet = true ∧ (∀ rest, s.inbox ≠ .reset :: rest) ∧
        ¬((∃ rest, s.inbox = .writeCmd 0x01#8 :: rest) ∧ t.status = 0x00#8) ∧
        ¬((∃ rest, s.inbox = .writeCmd 0x0A#8 :: rest) ∧ t.status = 0x00#8)))

/-- R20, R32: the IV slot changes only in a reset and in a LOADKEY, SETIV or ENCCBC that succeeds. -/
def Obligations.IvChangesOnlyInItsWriters : Prop :=
  ∀ s t : State, step s = .next t → t.iv ≠ s.iv →
    (∃ rest, s.inbox = .reset :: rest) ∨
    (t.status = 0x00#8 ∧ ∃ rest, s.inbox = .writeCmd 0x01#8 :: rest ∨ s.inbox = .writeCmd 0x02#8 :: rest ∨
      s.inbox = .writeCmd 0x0A#8 :: rest)

/-! ### Errors -/

/-- R195 with the table R202: a command that ends with a `STATUS` other than 0x00 has raised one of its errors, with
`OLEN` 0, no specified byte in `OBUF`, and nothing else changed. -/
def Obligations.AnErrorChangesOnlyStatusAndOutput : Prop :=
  ∀ (i : Instr) (s t : State), exec i s = .next t → t.status ≠ 0x00#8 →
    ∃ e, e ∈ possibleErrors i ∧ Raises s t e

/-- R197: the checks in their order, and the one error a command reports. A reserved byte is reported first, then the
missing key, then the operand length, then the failed draw; a command that passes them all succeeds (R202, R204); and the
entropy source is asked in the last case only, each request using up one answer (R174, R175; notes/assumptions/4.md). The
platform can hold the input length (R55; notes/assumptions/7.md). -/
def Obligations.ChecksAreMadeInOrder : Prop :=
  ∀ (s : State) (c : Byte) (rest : List HostMove), s.inbox = .writeCmd c :: rest → Presentable s →
    ∃ t, step s = .next t ∧
      ((∀ i, c ≠ encode i) → Raises { s with inbox := rest } t .illegalCommand ∧ t.entropy = s.entropy) ∧
      ∀ i, c = encode i →
        (needsKey i = true → s.keyValid = false →
          Raises { s with inbox := rest } t .noKey ∧ t.entropy = s.entropy) ∧
        ((needsKey i = true → s.keyValid = true) → acceptsLengths i s = false →
          (∃ e, lengthError i = some e ∧ Raises { s with inbox := rest } t e) ∧ t.entropy = s.entropy) ∧
        ((needsKey i = true → s.keyValid = true) → acceptsLengths i s = true → i = .enccbc → s.ivSet = false →
          t.entropy = s.entropy.tail ∧
          (drawnBytes s.entropyAnswer = none → Raises { s with inbox := rest } t .entropySourceFailure) ∧
          (drawnBytes s.entropyAnswer ≠ none → t.status = 0x00#8)) ∧
        ((needsKey i = true → s.keyValid = true) → acceptsLengths i s = true → (i = .enccbc → s.ivSet = true) →
          t.status = 0x00#8 ∧ t.entropy = s.entropy)

/-! ### Frames and independence over all commands -/

/-- R35, R51: no command changes `KLEN`, `ILEN` or any byte of `KBUF` or `IBUF`. -/
def Obligations.CommandsKeepTheHostsInputs : Prop :=
  ∀ (i : Instr) (s t : State), exec i s = .next t → KeepsInputs s t

/-- R39, R54: no command but LOADKEY depends on `KBUF` or `KLEN`. That the states agree in what is unspecified too, the slot
of PADIV and `OBUF` past `OLEN`, is the model's choice of free values labelled by the epoch (DESIGN CHOICE,
notes/assumptions/8.md): the spec lets two runs differ there (R53, U1, D30). -/
def Obligations.OnlyLoadkeyReadsTheKeyBuffer : Prop :=
  ∀ (i : Instr) (s t : State) (m : Memory) (n : Nat), i ≠ .loadkey → exec i s = .next t →
    exec i { s with kbuf := m, klen := n } = .next { t with kbuf := m, klen := n }

/-- R54, R107: a LOADKEY that succeeds depends on the key alone. With any other input, schedule, flags, IV, earlier
result and entropy answers it does the same, and it leaves the input and the answers as they are. That the states agree
in what is unspecified too, `IV` after LOADKEY (R106, U3) and all of `OBUF` (R53), is the model's choice of free values
labelled by the epoch (DESIGN CHOICE, notes/assumptions/8.md). That the key is `KBUF[0..KLEN)` alone is
LoadkeyInstallsTheSchedule. -/
def Obligations.LoadkeyReadsOnlyTheKey : Prop :=
  ∀ (s t : State) (m om : Memory) (n on : Nat) (c : CipherState) (kv iset : Bool) (iv : Block) (st : Byte)
    (ans : List EntropyAnswer),
    exec .loadkey s = .next t → t.status = 0x00#8 →
    exec .loadkey { s with
      ibuf := m, ilen := n, cipher := c, keyValid := kv, iv := iv, ivSet := iset, obuf := om, olen := on, status := st,
      entropy := ans } =
      .next { t with ibuf := m, ilen := n, entropy := ans }

/-- R140: PAD, PADIV and UNPAD read no engine state, draw no entropy and write no engine state: with any other schedule,
flags, IV and entropy answers they do the same to everything else. That they do the same to what is unspecified too, the
slot of PADIV and `OBUF` past `OLEN`, is not R140's but the model's choice of free values labelled by the epoch (DESIGN
CHOICE, notes/assumptions/8.md): the spec lets two runs differ there (R53, R144, U1, D30). -/
def Obligations.PaddingCommandsReadNoEngineState : Prop :=
  ∀ (i : Instr) (s t : State) (c : CipherState) (kv iset : Bool) (iv : Block) (ans : List EntropyAnswer),
    i = .pad ∨ i = .padiv ∨ i = .unpad → exec i s = .next t →
    KeepsInstance s t ∧ t.entropy = s.entropy ∧ t.status ≠ EngineError.noKey.code ∧
    exec i { s with cipher := c, keyValid := kv, iv := iv, ivSet := iset, entropy := ans } =
      .next { t with cipher := c, keyValid := kv, iv := iv, ivSet := iset, entropy := ans }

/-- R52, R54, R243: no command reads `OBUF`, `OLEN` or `STATUS`, and every command overwrites them. That `OBUF` past `OLEN`
does not depend on them either is the model's choice of free values labelled by the epoch (DESIGN CHOICE,
notes/assumptions/8.md): R53 lets it hold bytes of an earlier result. -/
def Obligations.EarlierResultsHaveNoEffect : Prop :=
  ∀ (i : Instr) (s : State) (m : Memory) (n : Nat) (c : Byte),
    exec i { s with obuf := m, olen := n, status := c } = exec i s

/-! ### The block core -/

/-- R121: the four byte lanes of the argument, the most significant first, select the entries of S0 to S3; and the rule's
example. -/
def Obligations.RoundFunctionCombinesFourLanes : Prop :=
  (∀ (s : SBoxes) (a b c d : Byte),
    roundF s (a ++ b ++ c ++ d) =
      ((s[0][a.toNat]'(a.isLt) + s[1][b.toNat]'(b.isLt)) ^^^ s[2][c.toNat]'(c.isLt)) + s[3][d.toNat]'(d.isLt)) ∧
  roundF Config.initS 0x00000000#32 = 0x2FCFF51E#32

/-- R123: Encipher as the recurrence of its rounds, the halves swapped at the end; and it is a bijection on pairs of words
for every schedule. -/
def Obligations.EncipherRunsSixteenRounds : Prop :=
  (∀ (c : CipherState) (l0 r0 : Word), ∃ l r : Nat → Word,
    l 0 = l0 ^^^ c.p[0] ∧ r 0 = r0 ∧
    (∀ (j : Nat) (h : j < 8),
      r (j + 1) = r j ^^^ roundF c.s (l j) ^^^ c.p[2 * j + 1] ∧
      l (j + 1) = l j ^^^ roundF c.s (r (j + 1)) ^^^ c.p[2 * j + 2]) ∧
    encipher c (l0, r0) = (r 8 ^^^ c.p[17], l 8)) ∧
  ∀ c : CipherState, Function.Bijective (encipher c)

/-- R124: Decipher is Encipher with the round keys in reverse order and nothing else changed. -/
def Obligations.DecipherIsEncipherWithKeysReversed : Prop :=
  ∀ (c : CipherState) (lr : Word × Word),
    decipher c lr = encipher { c with p := Vector.ofFn fun i => c.p[17 - i.val] } lr

/-- R125: the two transforms are inverses of each other for every schedule and all words. -/
def Obligations.DecipherAndEncipherAreInverse : Prop :=
  ∀ (c : CipherState) (l r : Word),
    decipher c (encipher c (l, r)) = (l, r) ∧ encipher c (decipher c (l, r)) = (l, r)

/-- R126, R57: the byte-level wrappers take the big-endian halves, and undo each other. -/
def Obligations.BlockTransformsAreInverse : Prop :=
  ∀ (c : CipherState) (b : Block),
    encBlock c b = blockOfHalves (encipher c (leftHalf b, rightHalf b)).1 (encipher c (leftHalf b, rightHalf b)).2 ∧
    decBlock c b = blockOfHalves (decipher c (leftHalf b, rightHalf b)).1 (decipher c (leftHalf b, rightHalf b)).2 ∧
    decBlock c (encBlock c b) = b ∧ encBlock c (decBlock c b) = b

/-- R57, R14: the left half is bytes 0 to 3 and the right half bytes 4 to 7, the first byte of each the most significant;
writing the halves back gives the block, and every pair of words is the halves of the block it is written to. -/
def Obligations.BlocksAreBigEndianHalves : Prop :=
  (∀ b : Block,
    (leftHalf b).toNat = b[0].toNat * 2 ^ 24 + b[1].toNat * 2 ^ 16 + b[2].toNat * 2 ^ 8 + b[3].toNat ∧
    (rightHalf b).toNat = b[4].toNat * 2 ^ 24 + b[5].toNat * 2 ^ 16 + b[6].toNat * 2 ^ 8 + b[7].toNat ∧
    blockOfHalves (leftHalf b) (rightHalf b) = b) ∧
  ∀ l r : Word, leftHalf (blockOfHalves l r) = l ∧ rightHalf (blockOfHalves l r) = r

/-- ENCBLK with a key and an 8-byte input (R127): it delivers the enciphered block and changes nothing else. -/
def Obligations.EncblkEnciphersOneBlock : Prop :=
  ∀ (s : State) (b : Block), s.keyValid = true → InputIs s b.toList →
    ∃ t, exec .encblk s = .next t ∧ Delivers t (encBlock s.cipher b).toList ∧
      KeepsInstance s t ∧ KeepsInputs s t ∧ t.entropy = s.entropy

/-- DECBLK with a key and an 8-byte input (R128): it delivers the deciphered block and changes nothing else. -/
def Obligations.DecblkDeciphersOneBlock : Prop :=
  ∀ (s : State) (b : Block), s.keyValid = true → InputIs s b.toList →
    ∃ t, exec .decblk s = .next t ∧ Delivers t (decBlock s.cipher b).toList ∧
      KeepsInstance s t ∧ KeepsInputs s t ∧ t.entropy = s.entropy

/-! ### The key schedule -/

/-- LOADKEY with a key of 1 to 56 bytes (R100, R106): the schedule derived from the key, `KEYVALID` 1, `IVSET` 0, no
output, the host's inputs and the entropy answers kept. `IV` is then unspecified. The initial constants are an open
parameter (D6): the statement holds for every value of it. -/
def Obligations.LoadkeyInstallsTheSchedule : Prop :=
  ∀ (s : State) (key : List Byte), KeyIs s key → 1 ≤ key.length → key.length ≤ 56 →
    ∃ t, exec .loadkey s = .next t ∧ t.cipher = deriveSchedule s.params.initP s.params.initS key ∧
      t.keyValid = true ∧ t.ivSet = false ∧ Delivers t [] ∧ KeepsInputs s t ∧ t.entropy = s.entropy

/-- R101: LOADKEY with `KLEN` = 0 or above 56 raises `InvalidKeyLength`, `STATUS` 0x01, and an instance already held stays
as it was; every length from 1 to 56 is accepted. -/
def Obligations.LoadkeyAcceptsOneToFiftySixBytes : Prop :=
  ∀ s : State, ∃ t, exec .loadkey s = .next t ∧ t.entropy = s.entropy ∧
    (s.klen = 0 ∨ 56 < s.klen → t.status = 0x01#8 ∧ Raises s t .invalidKeyLength) ∧
    (1 ≤ s.klen ∧ s.klen ≤ 56 → t.status = 0x00#8 ∧ t.keyValid = true)

/-- R58, R103: word i of the round keys after step 2, the key cycled modulo its length and its bytes taken big-endian. -/
def Obligations.KeyIsMixedBigEndianAndCycled : Prop :=
  ∀ (initP : RoundKeys) (key : List Byte) (h : 0 < key.length) (i : Nat) (hi : i < 18),
    (mixKey initP key)[i] = initP[i] ^^^
      (key[(4 * i) % key.length]'(Nat.mod_lt _ h) ++ key[(4 * i + 1) % key.length]'(Nat.mod_lt _ h) ++
        key[(4 * i + 2) % key.length]'(Nat.mod_lt _ h) ++ key[(4 * i + 3) % key.length]'(Nat.mod_lt _ h))

/-- R102, R104, R105: the schedule is the end of a chain of 521 encipherments of one running block that starts at zero.
Encipherment n reads the schedule as it then stands and its halves overwrite two words: round keys 2n and 2n + 1 for
n < 9, and from then on entries 2m and 2m + 1 of the tables, S0 first, 128 encipherments a table; every other word
stays. -/
def Obligations.ScheduleIsAChainOfEncipherments : Prop :=
  ∀ (initP : RoundKeys) (initS : SBoxes) (key : List Byte),
    ∃ (c : Nat → CipherState) (block : Nat → Word × Word),
      c 0 = { p := mixKey initP key, s := initS } ∧ block 0 = (0, 0) ∧
      (∀ n, n < 521 → block (n + 1) = encipher (c n) (block n)) ∧
      (∀ n, n < 521 → ∀ (i : Nat) (h : i < 18),
        (c (n + 1)).p[i] =
          if n < 9 ∧ i = 2 * n then (block (n + 1)).1
          else if n < 9 ∧ i = 2 * n + 1 then (block (n + 1)).2
          else (c n).p[i]) ∧
      (∀ n, n < 521 → ∀ (k i : Nat) (hk : k < 4) (h : i < 256),
        (c (n + 1)).s[k][i] =
          if 9 ≤ n ∧ k = (n - 9) / 128 ∧ i = 2 * ((n - 9) % 128) then (block (n + 1)).1
          else if 9 ≤ n ∧ k = (n - 9) / 128 ∧ i = 2 * ((n - 9) % 128) + 1 then (block (n + 1)).2
          else (c n).s[k][i]) ∧
      c 521 = deriveSchedule initP initS key

/-- R103, R107: two keys that agree on the 72 key-byte positions consumed give the same schedule. -/
def Obligations.KeysWithOneCycleAreEquivalent : Prop :=
  ∀ (initP : RoundKeys) (initS : SBoxes) (a b : List Byte) (ha : 0 < a.length) (hb : 0 < b.length),
    (∀ j, j < 72 → a[j % a.length]'(Nat.mod_lt _ ha) = b[j % b.length]'(Nat.mod_lt _ hb)) →
    deriveSchedule initP initS a = deriveSchedule initP initS b

/-- R109: the checks on the table of initial constants. -/
def Obligations.InitialConstantsPassTheirChecks : Prop :=
  Config.initP[0] = 0x243F6A88#32 ∧ Config.initP[17] = 0x8979FB1B#32 ∧
  Config.initS[0][0] = 0xD1310BA6#32 ∧ Config.initS[0][255] = 0x6E85076A#32 ∧
  Config.initS[1][0] = 0x4B7A70E9#32 ∧ Config.initS[1][255] = 0xDB83ADF7#32 ∧
  Config.initS[2][0] = 0xE93D5A68#32 ∧ Config.initS[2][255] = 0x406000E0#32 ∧
  Config.initS[3][0] = 0x3A39CE37#32 ∧ Config.initS[3][255] = 0x3AC372E6#32 ∧
  Config.initP.toList.foldl (· ^^^ ·) 0 = 0xB73AD7EA#32 ∧
  Config.initS[0].toList.foldl (· ^^^ ·) 0 = 0x4EB4DB7F#32 ∧
  Config.initS[1].toList.foldl (· ^^^ ·) 0 = 0xC727E122#32 ∧
  Config.initS[2].toList.foldl (· ^^^ ·) 0 = 0x462A5D01#32 ∧
  Config.initS[3].toList.foldl (· ^^^ ·) 0 = 0x1779E2BC#32 ∧
  (Config.initP.toList ++ Config.initS[0].toList ++ Config.initS[1].toList ++ Config.initS[2].toList ++
    Config.initS[3].toList).foldl (· + ·) 0 = 0x6BBF03AC#32

/-! ### The padding codec -/

/-- R142: the padded length is the smallest multiple of 8 strictly greater than the data's, with 1 to 8 bytes of padding,
and 8 more with a slot. -/
def Obligations.PaddingReachesTheNextMultipleOfEight : Prop :=
  ∀ (e : Byte) (slot : Block) (data : List Byte),
    (padBody e data).length = 8 * (data.length / 8 + 1) ∧
    (padWithSlot e slot data).length = 8 * (data.length / 8 + 1) + 8 ∧
    data.length < (padBody e data).length ∧
    (padBody e data).length - data.length = 8 - data.length % 8 ∧
    ∀ m, m % 8 = 0 → data.length < m → (padBody e data).length ≤ m

/-- R141, R143: the data stands unchanged in front, every padding byte is the last data byte XOR 0xCC, which differs from
that byte; for empty data `EMPTY_LAST` stands for the last byte; a slot comes first of all. -/
def Obligations.PaddingBytesAreLastByteXorCC : Prop :=
  ∀ (e : Byte) (slot : Block) (data : List Byte) (i : Nat) (h : i < (padBody e data).length),
    (∀ hd : i < data.length, (padBody e data)[i] = data[i]) ∧
    (∀ (_ : data.length ≤ i) (hn : 0 < data.length),
      (padBody e data)[i] = data[data.length - 1] ^^^ 0xCC#8 ∧ (padBody e data)[i] ≠ data[data.length - 1]) ∧
    (data = [] → (padBody e data)[i] = e ^^^ 0xCC#8) ∧
    padWithSlot e slot data = slot.toList ++ padBody e data

/-- R147: `Unpad` of a buffer of at least one byte is the index at which the trailing run of bytes equal to the final
byte begins. -/
def Obligations.UnpadFindsTheTrailingRun : Prop :=
  ∀ (buf : List Byte) (h : 0 < buf.length),
    unpad buf < buf.length ∧
    (∀ (i : Nat) (hi : i < buf.length), unpad buf ≤ i → buf[i] = buf[buf.length - 1]) ∧
    (∀ (i : Nat) (hi : i < buf.length), i + 1 = unpad buf → buf[i] ≠ buf[buf.length - 1])

/-- R150: `Unpad(Pad(data, false)) = len(data)` for every byte sequence, the empty one too, whatever `EMPTY_LAST` is. -/
def Obligations.UnpadUndoesPad : Prop :=
  ∀ (e : Byte) (data : List Byte), unpad (padBody e data) = data.length

/-- R151: with a slot, whatever it holds: 8 + len(data) for data that is not empty; for empty data between 0 and 8, and 8
exactly when the slot's last byte is not the fill. -/
def Obligations.UnpadUndoesPadWithSlot : Prop :=
  (∀ (e : Byte) (slot : Block) (data : List Byte), 0 < data.length →
    unpad (padWithSlot e slot data) = 8 + data.length) ∧
  ∀ (e : Byte) (slot : Block), unpad (padWithSlot e slot []) ≤ 8 ∧
    (unpad (padWithSlot e slot []) = 8 ↔ slot[7] ≠ e ^^^ 0xCC#8)

/-- PAD (R145): any input length, no error, no key needed; it delivers the padded input, for whatever value of the open
parameter `EMPTY_LAST`, and changes nothing else. -/
def Obligations.PadDeliversThePaddedInput : Prop :=
  ∀ (s : State) (data : List Byte), InputIs s data →
    ∃ t, exec .pad s = .next t ∧
      Delivers t (data ++ List.replicate (8 - data.length % 8) (data.getLast?.getD s.params.emptyLast ^^^ 0xCC#8)) ∧
      KeepsInstance s t ∧ KeepsInputs s t ∧ t.entropy = s.entropy

/-- PADIV (R146): eight bytes of which nothing is said (R144; notes/assumptions/8.md), then what PAD delivers; nothing
else changes. -/
def Obligations.PadivDeliversASlotAndThePaddedInput : Prop :=
  ∀ (s : State) (data : List Byte), InputIs s data →
    ∃ (t : State) (slot : Block), exec .padiv s = .next t ∧
      Delivers t (slot.toList ++
        (data ++ List.replicate (8 - data.length % 8) (data.getLast?.getD s.params.emptyLast ^^^ 0xCC#8))) ∧
      KeepsInstance s t ∧ KeepsInputs s t ∧ t.entropy = s.entropy

/-- UNPAD (R149): an input of at least one byte is delivered cut to its logical length, with no key needed; nothing else
changes. -/
def Obligations.UnpadDeliversTheCutInput : Prop :=
  ∀ (s : State) (buf : List Byte), InputIs s buf → 0 < buf.length →
    ∃ t, exec .unpad s = .next t ∧ Delivers t (buf.take (unpad buf)) ∧
      KeepsInstance s t ∧ KeepsInputs s t ∧ t.entropy = s.entropy

/-! ### ECB -/

/-- ENCECB with a key (R160, R161): any input length; block k of the result is the encipherment of block k of the padded
input; nothing else changes. -/
def Obligations.EncecbEnciphersEveryBlock : Prop :=
  ∀ (s : State) (data : List Byte), s.keyValid = true → InputIs s data →
    ∃ (t : State) (out : List Byte), exec .encecb s = .next t ∧ Delivers t out ∧
      out.length = 8 * (data.length / 8 + 1) ∧
      (∀ k, k < data.length / 8 + 1 →
        blockAt out k = encBlock s.cipher (blockAt (padBody s.params.emptyLast data) k)) ∧
      KeepsInstance s t ∧ KeepsInputs s t ∧ t.entropy = s.entropy

/-- DECECB with a key on a positive multiple of 8 bytes (R163): every block deciphered, the padding cut off; nothing else
changes. -/
def Obligations.DececbDeciphersAndUnpads : Prop :=
  ∀ (s : State) (ct : List Byte), s.keyValid = true → InputIs s ct → ct.length % 8 = 0 → 0 < ct.length →
    ∃ (t : State) (w : List Byte), exec .dececb s = .next t ∧ w.length = ct.length ∧
      (∀ k, k < ct.length / 8 → blockAt w k = decBlock s.cipher (blockAt ct k)) ∧
      Delivers t (w.take (unpad w)) ∧
      KeepsInstance s t ∧ KeepsInputs s t ∧ t.entropy = s.entropy

/-- R164: DECECB with a key rejects a length that is 0 or no multiple of 8, `STATUS` 0x03, and accepts every other. -/
def Obligations.DececbAcceptsPositiveMultiplesOfEight : Prop :=
  ∀ s : State, s.keyValid = true → ∃ t, exec .dececb s = .next t ∧
    (s.ilen = 0 ∨ s.ilen % 8 ≠ 0 → t.status = 0x03#8 ∧ Raises s t .invalidCiphertextLength) ∧
    (s.ilen ≠ 0 ∧ s.ilen % 8 = 0 → t.status = 0x00#8)

/-- R165: LOADKEY key, ENCECB data, then DECECB of the result returns data, for every legal key and all data, whatever
the host does in between that leaves the instance alone. -/
def Obligations.EcbRoundTripReturnsTheData : Prop :=
  ∀ (s0 : State) (key data : List Byte), KeyIs s0 key → 1 ≤ key.length → key.length ≤ 56 →
    ∃ s1, exec .loadkey s0 = .next s1 ∧ s1.status = 0x00#8 ∧
    ∀ s2, KeepsInstance s1 s2 → InputIs s2 data →
    ∃ s3, exec .encecb s2 = .next s3 ∧ s3.status = 0x00#8 ∧
    ∀ s4, KeepsInstance s3 s4 → InputIs s4 s3.result →
    ∃ s5, exec .dececb s4 = .next s5 ∧ Delivers s5 data

/-- R162: under one schedule and one `EMPTY_LAST` the same data gives the same ECB result, whatever IV slot and entropy source, with no draw;
and equal blocks of it at block offsets give equal blocks of the result there. -/
def Obligations.EcbIsDeterministicBlockByBlock : Prop :=
  ∀ (s u : State) (data : List Byte), s.keyValid = true → u.keyValid = true → s.cipher = u.cipher →
    s.params.emptyLast = u.params.emptyLast → InputIs s data → InputIs u data →
    ∃ t v, exec .encecb s = .next t ∧ exec .encecb u = .next v ∧ t.result = v.result ∧ t.entropy = s.entropy ∧
      ∀ j k, j < data.length / 8 → k < data.length / 8 → blockAt data j = blockAt data k →
        blockAt t.result j = blockAt t.result k

/-! ### CBC and the IV slot -/

/-- SETIV with a key and 8 bytes (R170, R171): the bytes are the IV, `IVSET` is 1, there is no output, and nothing else
changes. -/
def Obligations.SetivStoresTheIv : Prop :=
  ∀ (s : State) (b : Block), s.keyValid = true → InputIs s b.toList →
    ∃ t, exec .setiv s = .next t ∧ t.iv = b ∧ t.ivSet = true ∧ Delivers t [] ∧
      t.cipher = s.cipher ∧ t.keyValid = true ∧ KeepsInputs s t ∧ t.entropy = s.entropy

/-- ENCCBC with a key and a set IV (R173, R176 to R178): block 0 of the result is the IV, block k the encipherment of
block k of the padded data XORed with the block before it in the result; `IVSET` is 0 after, the entropy source is not
asked, and nothing else changes. -/
def Obligations.EnccbcChainsFromTheSetIv : Prop :=
  ∀ (s : State) (data : List Byte), s.keyValid = true → s.ivSet = true → InputIs s data →
    ∃ (t : State) (out : List Byte), exec .enccbc s = .next t ∧ Delivers t out ∧
      out.length = 8 * (data.length / 8 + 1) + 8 ∧ blockAt out 0 = s.iv ∧
      (∀ k, k < data.length / 8 + 1 → blockAt out (k + 1) =
        encBlock s.cipher (xor8 (blockAt (padBody s.params.emptyLast data) k) (blockAt out k))) ∧
      t.ivSet = false ∧ t.iv = s.iv ∧ t.cipher = s.cipher ∧ t.keyValid = true ∧
      KeepsInputs s t ∧ t.entropy = s.entropy

/-- ENCCBC with a key and no set IV, for every answer of 8 bytes (R173 to R178): the same with the bytes drawn, which are
also in `IV`; one answer is used up (notes/assumptions/4.md). -/
def Obligations.EnccbcChainsFromTheDrawnIv : Prop :=
  ∀ (s : State) (data : List Byte) (iv : Block), s.keyValid = true → s.ivSet = false →
    drawnBytes s.entropyAnswer = some iv → InputIs s data →
    ∃ (t : State) (out : List Byte), exec .enccbc s = .next t ∧ Delivers t out ∧
      out.length = 8 * (data.length / 8 + 1) + 8 ∧ blockAt out 0 = iv ∧
      (∀ k, k < data.length / 8 + 1 → blockAt out (k + 1) =
        encBlock s.cipher (xor8 (blockAt (padBody s.params.emptyLast data) k) (blockAt out k))) ∧
      t.ivSet = false ∧ t.iv = iv ∧ t.cipher = s.cipher ∧ t.keyValid = true ∧
      KeepsInputs s t ∧ t.entropy = s.entropy.tail

/-- R175, R194: ENCCBC with a key and no set IV raises `EntropySourceFailure`, `STATUS` 0x04, when the source fails or
gives fewer than 8 bytes; there is no output and nothing else changes. That the failed request uses up one listed answer,
so that a retried ENCCBC makes a new draw (R203), is the model's choice (DESIGN CHOICE, notes/assumptions/4.md). -/
def Obligations.EnccbcFailsWithoutEntropy : Prop :=
  ∀ s : State, s.keyValid = true → s.ivSet = false →
    (s.entropyAnswer = .fail ∨ ∃ n, s.entropyAnswer = .short n) →
    ∃ t, exec .enccbc s = .next t ∧ t.status = 0x04#8 ∧ Raises s t .entropySourceFailure ∧
      t.entropy = s.entropy.tail

/-- R179: with `IVSET` = 0 the result of ENCCBC is a function of schedule, data and draw: equal draws give equal results
and different draws results that differ in their first 8 bytes. With `IVSET` = 1 it is a function of schedule, IV and
data. The engine's `EMPTY_LAST` is one (R143). -/
def Obligations.EnccbcResultFollowsTheDraw : Prop :=
  (∀ (s u : State) (data : List Byte) (a b : Block), s.keyValid = true → u.keyValid = true →
    s.ivSet = false → u.ivSet = false → s.cipher = u.cipher → s.params.emptyLast = u.params.emptyLast →
    InputIs s data → InputIs u data →
    drawnBytes s.entropyAnswer = some a → drawnBytes u.entropyAnswer = some b →
    ∃ t v, exec .enccbc s = .next t ∧ exec .enccbc u = .next v ∧
      (a = b → t.result = v.result) ∧ (a ≠ b → t.result.take 8 ≠ v.result.take 8)) ∧
  ∀ (s u : State) (data : List Byte), s.keyValid = true → u.keyValid = true →
    s.ivSet = true → u.ivSet = true → s.cipher = u.cipher → s.iv = u.iv → s.params.emptyLast = u.params.emptyLast →
    InputIs s data → InputIs u data →
    ∃ t v, exec .enccbc s = .next t ∧ exec .enccbc u = .next v ∧ t.result = v.result

/-- R172, R242: the IV of a SETIV serves exactly one ENCCBC, which cannot fail and embeds it; after it, and after a
LOADKEY that succeeds in between, `IVSET` is 0. -/
def Obligations.ASetIvServesOneEnccbc : Prop :=
  ∀ (s t : State), exec .setiv s = .next t → t.status = 0x00#8 →
    (∀ u, KeepsInstance t u → ∃ v, exec .enccbc u = .next v ∧ v.status = 0x00#8 ∧
      v.result.take 8 = t.iv.toList ∧ v.ivSet = false) ∧
    (∀ u v, KeepsInstance t u → exec .loadkey u = .next v → v.status = 0x00#8 → v.ivSet = false)

/-- DECCBC with a key on a multiple of 8 of at least 16 bytes (R180, R183, R184): block k of the working buffer is the
decipherment of block k XORed with ciphertext block k - 1; the whole is unpadded and the IV block dropped, the boundary
held at 8 from below; the IV slot and everything else stay (R186). -/
def Obligations.DeccbcUnchainsAndUnpads : Prop :=
  ∀ (s : State) (ct : List Byte), s.keyValid = true → InputIs s ct → ct.length % 8 = 0 → 16 ≤ ct.length →
    ∃ (t : State) (w : List Byte), exec .deccbc s = .next t ∧ w.length = ct.length ∧
      blockAt w 0 = blockAt ct 0 ∧
      (∀ k, k + 1 < ct.length / 8 →
        blockAt w (k + 1) = xor8 (decBlock s.cipher (blockAt ct (k + 1))) (blockAt ct k)) ∧
      Delivers t ((w.take (max (unpad w) 8)).drop 8) ∧
      KeepsInstance s t ∧ KeepsInputs s t ∧ t.entropy = s.entropy

/-- R181: DECCBC with a key rejects a length that is no multiple of 8 or below 16, `STATUS` 0x03, and accepts every
other. -/
def Obligations.DeccbcAcceptsMultiplesOfEightFromSixteen : Prop :=
  ∀ s : State, s.keyValid = true → ∃ t, exec .deccbc s = .next t ∧
    (s.ilen % 8 ≠ 0 ∨ s.ilen < 16 → t.status = 0x03#8 ∧ Raises s t .invalidCiphertextLength) ∧
    (s.ilen % 8 = 0 ∧ 16 ≤ s.ilen → t.status = 0x00#8)

/-- R185: LOADKEY key, ENCCBC data with any IV, set or drawn, then DECCBC of the result returns data, for every legal key
and all data, the empty one too. -/
def Obligations.CbcRoundTripReturnsTheData : Prop :=
  ∀ (s0 : State) (key data : List Byte), KeyIs s0 key → 1 ≤ key.length → key.length ≤ 56 →
    ∃ s1, exec .loadkey s0 = .next s1 ∧ s1.status = 0x00#8 ∧
    ∀ s2, s2.cipher = s1.cipher → s2.keyValid = s1.keyValid → InputIs s2 data →
    (s2.ivSet = true ∨ drawnBytes s2.entropyAnswer ≠ none) →
    ∃ s3, exec .enccbc s2 = .next s3 ∧ s3.status = 0x00#8 ∧
    ∀ s4, KeepsInstance s3 s4 → InputIs s4 s3.result →
    ∃ s5, exec .deccbc s4 = .next s5 ∧ Delivers s5 data

/-- R187: altering one ciphertext block j changes the un-chained blocks j and j + 1 and no others, altering the IV block
changes block 1 alone, by the same bits; DECCBC reports success on both ciphertexts and delivers what unpadding makes of
the two un-chained buffers (R183). -/
def Obligations.CbcErrorsPropagateToTwoBlocks : Prop :=
  ∀ (s u : State) (a b : List Byte) (j : Nat), s.keyValid = true → u.keyValid = true → s.cipher = u.cipher →
    InputIs s a → InputIs u b → a.length = b.length → a.length % 8 = 0 → 16 ≤ a.length → j < a.length / 8 →
    blockAt a j ≠ blockAt b j → (∀ k, k ≠ j → blockAt a k = blockAt b k) →
    ∃ t v wa wb, exec .deccbc s = .next t ∧ exec .deccbc u = .next v ∧
      wa.length = a.length ∧ wb.length = b.length ∧ blockAt wa 0 = blockAt a 0 ∧ blockAt wb 0 = blockAt b 0 ∧
      (∀ k, k + 1 < a.length / 8 →
        blockAt wa (k + 1) = xor8 (decBlock s.cipher (blockAt a (k + 1))) (blockAt a k) ∧
        blockAt wb (k + 1) = xor8 (decBlock u.cipher (blockAt b (k + 1))) (blockAt b k)) ∧
      Delivers t ((wa.take (max (unpad wa) 8)).drop 8) ∧ Delivers v ((wb.take (max (unpad wb) 8)).drop 8) ∧
      (∀ k, 1 ≤ k → k < a.length / 8 → (blockAt wa k ≠ blockAt wb k ↔ k = j ∨ k = j + 1)) ∧
      (j = 0 → xor8 (blockAt wa 1) (blockAt wb 1) = xor8 (blockAt a 0) (blockAt b 0))

/-! ### A pseudo-command -/

/-- The decryption across the foreign-function boundary (R95): LOADKEY and then, if it succeeded, DECCBC. A bad key
length is reported by the first, and an instance already held stays; after a legal key the engine holds the schedule of
that key with `IVSET` 0, a bad ciphertext length is reported by the second, and on a legal one the plaintext is delivered:
the ciphertext un-chained under that schedule and cut. The initial constants are whatever the open parameter is
(notes/assumptions/5.md), and the platform can hold the input lengths (R55; notes/assumptions/7.md). -/
def Obligations.ForeignDecryptLoadsTheKeyAndDecrypts : Prop :=
  ∀ (s : State) (key ct : List Byte),
    (∀ m, s.params.maxLen = some m → s.ilen ≤ m ∧ ct.length ≤ m) →
    ∃ t, foreignDecrypt key ct s = .next t ∧ t.entropy = s.entropy ∧
    (key.length = 0 ∨ 56 < key.length → t.status = 0x01#8 ∧ t.olen = 0 ∧ KeepsInstance s t) ∧
    (1 ≤ key.length ∧ key.length ≤ 56 →
      t.cipher = deriveSchedule s.params.initP s.params.initS key ∧ t.keyValid = true ∧ t.ivSet = false ∧
      (ct.length % 8 ≠ 0 ∨ ct.length < 16 → t.status = 0x03#8 ∧ t.olen = 0) ∧
      (ct.length % 8 = 0 ∧ 16 ≤ ct.length → ∃ w, w.length = ct.length ∧ blockAt w 0 = blockAt ct 0 ∧
        (∀ k, k + 1 < ct.length / 8 → blockAt w (k + 1) =
          xor8 (decBlock (deriveSchedule s.params.initP s.params.initS key) (blockAt ct (k + 1))) (blockAt ct k)) ∧
        Delivers t ((w.take (max (unpad w) 8)).drop 8)))
end

