-- ==== Sys2Proof/Laws/Blocks.lean ====
section
/-! SUPPORT. The laws of byte sequences and blocks: their lengths, and how a sequence is cut into blocks and put
together again. -/

namespace Sys2Proof.Machine

@[simp] theorem blocksOf_nil : blocksOf [] = [] := rfl

@[simp] theorem bytesOf_nil : bytesOf [] = [] := rfl

@[simp] theorem bytesOf_cons (b : Block) (bs : List Block) : bytesOf (b :: bs) = b.toList ++ bytesOf bs := rfl

@[simp] theorem length_bytesOf (bs : List Block) : (bytesOf bs).length = 8 * bs.length := by
  induction bs with
  | nil => rfl
  | cons b bs ih => simp [ih]; omega

/-- A block in front of a byte sequence is cut off as its first block. -/
@[simp] theorem blocksOf_block_append (b : Block) (rest : List Byte) :
    blocksOf (b.toList ++ rest) = b :: blocksOf rest := by
  obtain ⟨⟨l⟩, h⟩ := b
  match l, h with
  | [b0, b1, b2, b3, b4, b5, b6, b7], _ => rfl

/-- Cutting undoes putting together. -/
@[simp] theorem blocksOf_bytesOf (bs : List Block) : blocksOf (bytesOf bs) = bs := by
  induction bs with
  | nil => rfl
  | cons b bs ih => simp [ih]

/-- Putting together undoes cutting, for a sequence of whole blocks. -/
theorem bytesOf_blocksOf (l : List Byte) (h : l.length % 8 = 0) : bytesOf (blocksOf l) = l := by
  induction l using blocksOf.induct with
  | case1 b0 b1 b2 b3 b4 b5 b6 b7 rest ih =>
    have : rest.length % 8 = 0 := by simp only [List.length_cons] at h; omega
    simp [blocksOf, ih this]
  | case2 l hne =>
    match l with
    | [] => rfl
    | [_] | [_, _] | [_, _, _] | [_, _, _, _] | [_, _, _, _, _] | [_, _, _, _, _, _] | [_, _, _, _, _, _, _] =>
      simp at h
    | b0 :: b1 :: b2 :: b3 :: b4 :: b5 :: b6 :: b7 :: rest => exact absurd rfl (hne b0 b1 b2 b3 b4 b5 b6 b7 rest)

/-- The number of blocks of a sequence of whole blocks. -/
theorem length_blocksOf (l : List Byte) (h : l.length % 8 = 0) : (blocksOf l).length = l.length / 8 := by
  have := congrArg List.length (bytesOf_blocksOf l h)
  rw [length_bytesOf] at this
  omega

@[simp] theorem length_cbcEncipher (c : CipherState) (iv : Block) (ms : List Block) :
    (cbcEncipher c iv ms).length = ms.length := by
  induction ms generalizing iv with
  | nil => rfl
  | cons m ms ih => simp [cbcEncipher, ih]

@[simp] theorem length_cbcDecipher (c : CipherState) (iv : Block) (cs : List Block) :
    (cbcDecipher c iv cs).length = cs.length := by
  induction cs generalizing iv with
  | nil => rfl
  | cons x cs ih => simp [cbcDecipher, ih]

@[simp] theorem getElem_xor8 (x y : Block) (i : Nat) (h : i < 8) : (xor8 x y)[i] = x[i] ^^^ y[i] := by
  simp [xor8]

@[simp] theorem length_keyOperand (s : State) : s.keyOperand.length = s.klen := by
  simp [State.keyOperand, Memory.readBytes]

@[simp] theorem length_inputOperand (s : State) : s.inputOperand.length = s.ilen := by
  simp [State.inputOperand, Memory.readBytes]

end Sys2Proof.Machine
end

