-- ==== Sys2Proof/Laws/Memory.lean ====
section
/-! SUPPORT. The laws of the buffers: a read after a write, the canonical form kept by every operation, and what a
sequence of writes leaves. -/

namespace Sys2Proof.Machine

@[simp] theorem lookupCell_insertCell (cs : List Host.Cell) (a b : Nat) (v : Byte) :
    lookupCell (insertCell cs a v) b = if b = a then some v else lookupCell cs b := by
  induction cs with
  | nil => simp [insertCell, lookupCell]
  | cons c cs ih =>
    obtain ⟨k, w⟩ := c
    simp only [insertCell]
    split
    · simp [lookupCell]
    · split
      · subst_vars
        simp only [lookupCell]
        split <;> simp_all
      · simp only [lookupCell, ih]
        split <;> split <;> simp_all

/-- Every cell of a list with a byte put in is that byte or was there before. -/
theorem mem_insertCell {cs : List Host.Cell} {a : Nat} {v : Byte} {c : Host.Cell} (h : c ∈ insertCell cs a v) :
    c = (a, v) ∨ c ∈ cs := by
  induction cs with
  | nil => simpa [insertCell] using h
  | cons d cs ih =>
    obtain ⟨k, w⟩ := d
    simp only [insertCell] at h
    split at h
    · simpa using h
    · split at h
      · simp only [List.mem_cons] at h ⊢
        tauto
      · simp only [List.mem_cons] at h ⊢
        rcases h with h | h
        · exact .inr (.inl h)
        · exact (ih h).imp id .inr

theorem insertCell_pairwise {cs : List Host.Cell} (a : Nat) (v : Byte)
    (h : cs.Pairwise fun x y => x.1 < y.1) : (insertCell cs a v).Pairwise fun x y => x.1 < y.1 := by
  induction cs with
  | nil => simp [insertCell]
  | cons d cs ih =>
    obtain ⟨k, w⟩ := d
    rw [List.pairwise_cons] at h
    simp only [insertCell]
    split
    · rename_i hlt
      refine List.pairwise_cons.2 ⟨?_, List.pairwise_cons.2 h⟩
      intro c hc
      rcases List.mem_cons.1 hc with rfl | hc
      · exact hlt
      · exact lt_trans hlt (h.1 c hc)
    · split
      · subst_vars
        exact List.pairwise_cons.2 ⟨h.1, h.2⟩
      · rename_i h1 h2
        refine List.pairwise_cons.2 ⟨?_, ih h.2⟩
        intro c hc
        rcases mem_insertCell hc with rfl | hc
        · simp only; omega
        · exact h.1 c hc

namespace Memory

@[simp] theorem get?_blank (site : FreeSite) (e a : Nat) : (blank site e).get? a = none := rfl

@[simp] theorem site_blank (site : FreeSite) (e : Nat) : (blank site e).site = site := rfl

theorem blank_wf (site : FreeSite) (e : Nat) : (blank site e).wf := List.Pairwise.nil

@[simp] theorem get?_write (m : Memory) (a b : Nat) (v : Byte) :
    (m.write a v).get? b = if b = a then some v else m.get? b := by
  simp [get?, write]

@[simp] theorem read_write_same (m : Memory) (a : Nat) (v : Byte) : (m.write a v).read a = v := by
  simp [read]

@[simp] theorem site_write (m : Memory) (a : Nat) (v : Byte) : (m.write a v).site = m.site := rfl

@[simp] theorem epoch_write (m : Memory) (a : Nat) (v : Byte) : (m.write a v).epoch = m.epoch := rfl

/-- A write leaves every other byte alone. -/
theorem read_write_other (m : Memory) {a b : Nat} (v : Byte) (h : b ≠ a) : (m.write a v).read b = m.read b := by
  simp [read, h]

/-- A write keeps the canonical form. -/
theorem write_wf {m : Memory} (a : Nat) (v : Byte) (h : m.wf) : (m.write a v).wf :=
  insertCell_pairwise a v h

@[simp] theorem site_writeBytes (m : Memory) (off : Nat) (vs : List Byte) :
    (m.writeBytes off vs).site = m.site := by
  induction vs generalizing m off with
  | nil => rfl
  | cons v vs ih => simp [writeBytes, ih]

@[simp] theorem epoch_writeBytes (m : Memory) (off : Nat) (vs : List Byte) :
    (m.writeBytes off vs).epoch = m.epoch := by
  induction vs generalizing m off with
  | nil => rfl
  | cons v vs ih => simp [writeBytes, ih]

/-- A sequence of writes keeps the canonical form. -/
theorem writeBytes_wf {m : Memory} (off : Nat) (vs : List Byte) (h : m.wf) : (m.writeBytes off vs).wf := by
  induction vs generalizing m off with
  | nil => exact h
  | cons v vs ih => exact ih _ (write_wf off v h)

/-- What a sequence of writes leaves at an offset. -/
theorem get?_writeBytes (m : Memory) (off : Nat) (vs : List Byte) (a : Nat) :
    (m.writeBytes off vs).get? a = if off ≤ a ∧ a < off + vs.length then vs[a - off]? else m.get? a := by
  induction vs generalizing m off with
  | nil => simp only [writeBytes, List.length_nil]; rw [if_neg (by omega)]
  | cons v vs ih =>
    simp only [writeBytes, ih, get?_write, List.length_cons]
    by_cases h1 : off + 1 ≤ a ∧ a < off + 1 + vs.length
    · rw [if_pos h1, if_pos (by omega), show a - off = (a - (off + 1)) + 1 by omega, List.getElem?_cons_succ]
    · rw [if_neg h1]
      by_cases h2 : a = off
      · subst h2
        rw [if_pos rfl, if_pos (by omega)]
        simp
      · rw [if_neg h2, if_neg (by omega)]

/-- The bytes written are read back. -/
theorem read_writeBytes_inside (m : Memory) (off : Nat) (vs : List Byte) (i : Nat) (h : i < vs.length) :
    (m.writeBytes off vs).read (off + i) = vs[i] := by
  simp [read, get?_writeBytes, h]

/-- A sequence of writes leaves every byte outside it alone. -/
theorem read_writeBytes_outside (m : Memory) (off : Nat) (vs : List Byte) (a : Nat)
    (h : a < off ∨ off + vs.length ≤ a) : (m.writeBytes off vs).read a = m.read a := by
  have : ¬(off ≤ a ∧ a < off + vs.length) := by omega
  simp [read, get?_writeBytes, this]

@[simp] theorem length_readBytes (m : Memory) (off n : Nat) : (m.readBytes off n).length = n := by
  simp [readBytes]

@[simp] theorem getElem_readBytes (m : Memory) (off n i : Nat) (h : i < (m.readBytes off n).length) :
    (m.readBytes off n)[i] = m.read (off + i) := by
  simp [readBytes]

/-- What was written is what is read. -/
theorem readBytes_writeBytes (m : Memory) (off : Nat) (vs : List Byte) :
    (m.writeBytes off vs).readBytes off vs.length = vs := by
  apply List.ext_getElem (by simp)
  intro i h1 h2
  rw [getElem_readBytes, read_writeBytes_inside _ _ _ _ h2]

end Memory

/-- The result of a command that completes is what it wrote. -/
@[simp] theorem State.result_complete (s : State) (out : List Byte) : (s.complete out).result = out :=
  Memory.readBytes_writeBytes _ 0 out

/-- A byte of `OBUF` has a specified value after a success exactly when it belongs to the result. -/
theorem State.get?_obuf_complete (s : State) (out : List Byte) (a : Nat) :
    (s.complete out).obuf.get? a = out[a]? := by
  show ((Memory.blank .obuf s.epoch).writeBytes 0 out).get? a = _
  rw [Memory.get?_writeBytes]
  split
  · simp
  · rw [List.getElem?_eq_none (by omega)]; rfl

end Sys2Proof.Machine
end

