-- ==== Sys2Proof/Laws/State.lean ====
section
/-! SUPPORT. One lemma for each field of State under each update of it, so that no proof unfolds a record update. -/

namespace Sys2Proof.Machine

/-! ### Raising an error -/

@[simp] theorem State.raise_params (s : State) (e : EngineError) : (s.raise e).params = s.params := rfl
@[simp] theorem State.raise_cipher (s : State) (e : EngineError) : (s.raise e).cipher = s.cipher := rfl
@[simp] theorem State.raise_keyValid (s : State) (e : EngineError) : (s.raise e).keyValid = s.keyValid := rfl
@[simp] theorem State.raise_iv (s : State) (e : EngineError) : (s.raise e).iv = s.iv := rfl
@[simp] theorem State.raise_ivSet (s : State) (e : EngineError) : (s.raise e).ivSet = s.ivSet := rfl
@[simp] theorem State.raise_klen (s : State) (e : EngineError) : (s.raise e).klen = s.klen := rfl
@[simp] theorem State.raise_ilen (s : State) (e : EngineError) : (s.raise e).ilen = s.ilen := rfl
@[simp] theorem State.raise_olen (s : State) (e : EngineError) : (s.raise e).olen = 0 := rfl
@[simp] theorem State.raise_status (s : State) (e : EngineError) : (s.raise e).status = e.code := rfl
@[simp] theorem State.raise_kbuf (s : State) (e : EngineError) : (s.raise e).kbuf = s.kbuf := rfl
@[simp] theorem State.raise_ibuf (s : State) (e : EngineError) : (s.raise e).ibuf = s.ibuf := rfl
@[simp] theorem State.raise_obuf (s : State) (e : EngineError) : (s.raise e).obuf = .blank .obuf s.epoch := rfl
@[simp] theorem State.raise_inbox (s : State) (e : EngineError) : (s.raise e).inbox = s.inbox := rfl
@[simp] theorem State.raise_entropy (s : State) (e : EngineError) : (s.raise e).entropy = s.entropy := rfl
@[simp] theorem State.raise_epoch (s : State) (e : EngineError) : (s.raise e).epoch = s.epoch + 1 := rfl

/-! ### Completing a command -/

@[simp] theorem State.complete_params (s : State) (out : List Byte) : (s.complete out).params = s.params := rfl
@[simp] theorem State.complete_cipher (s : State) (out : List Byte) : (s.complete out).cipher = s.cipher := rfl
@[simp] theorem State.complete_keyValid (s : State) (out : List Byte) : (s.complete out).keyValid = s.keyValid := rfl
@[simp] theorem State.complete_iv (s : State) (out : List Byte) : (s.complete out).iv = s.iv := rfl
@[simp] theorem State.complete_ivSet (s : State) (out : List Byte) : (s.complete out).ivSet = s.ivSet := rfl
@[simp] theorem State.complete_klen (s : State) (out : List Byte) : (s.complete out).klen = s.klen := rfl
@[simp] theorem State.complete_ilen (s : State) (out : List Byte) : (s.complete out).ilen = s.ilen := rfl
@[simp] theorem State.complete_olen (s : State) (out : List Byte) : (s.complete out).olen = out.length := rfl
@[simp] theorem State.complete_status (s : State) (out : List Byte) : (s.complete out).status = 0x00#8 := rfl
@[simp] theorem State.complete_kbuf (s : State) (out : List Byte) : (s.complete out).kbuf = s.kbuf := rfl
@[simp] theorem State.complete_ibuf (s : State) (out : List Byte) : (s.complete out).ibuf = s.ibuf := rfl
@[simp] theorem State.complete_obuf (s : State) (out : List Byte) : (s.complete out).obuf = (Memory.blank .obuf s.epoch).writeBytes 0 out := rfl
@[simp] theorem State.complete_inbox (s : State) (out : List Byte) : (s.complete out).inbox = s.inbox := rfl
@[simp] theorem State.complete_entropy (s : State) (out : List Byte) : (s.complete out).entropy = s.entropy := rfl
@[simp] theorem State.complete_epoch (s : State) (out : List Byte) : (s.complete out).epoch = s.epoch + 1 := rfl

/-! ### An entropy answer given -/

@[simp] theorem State.dropAnswer_params (s : State) : (s.dropAnswer).params = s.params := rfl
@[simp] theorem State.dropAnswer_cipher (s : State) : (s.dropAnswer).cipher = s.cipher := rfl
@[simp] theorem State.dropAnswer_keyValid (s : State) : (s.dropAnswer).keyValid = s.keyValid := rfl
@[simp] theorem State.dropAnswer_iv (s : State) : (s.dropAnswer).iv = s.iv := rfl
@[simp] theorem State.dropAnswer_ivSet (s : State) : (s.dropAnswer).ivSet = s.ivSet := rfl
@[simp] theorem State.dropAnswer_klen (s : State) : (s.dropAnswer).klen = s.klen := rfl
@[simp] theorem State.dropAnswer_ilen (s : State) : (s.dropAnswer).ilen = s.ilen := rfl
@[simp] theorem State.dropAnswer_olen (s : State) : (s.dropAnswer).olen = s.olen := rfl
@[simp] theorem State.dropAnswer_status (s : State) : (s.dropAnswer).status = s.status := rfl
@[simp] theorem State.dropAnswer_kbuf (s : State) : (s.dropAnswer).kbuf = s.kbuf := rfl
@[simp] theorem State.dropAnswer_ibuf (s : State) : (s.dropAnswer).ibuf = s.ibuf := rfl
@[simp] theorem State.dropAnswer_obuf (s : State) : (s.dropAnswer).obuf = s.obuf := rfl
@[simp] theorem State.dropAnswer_inbox (s : State) : (s.dropAnswer).inbox = s.inbox := rfl
@[simp] theorem State.dropAnswer_entropy (s : State) : (s.dropAnswer).entropy = s.entropy.tail := rfl
@[simp] theorem State.dropAnswer_epoch (s : State) : (s.dropAnswer).epoch = s.epoch := rfl

/-! ### The entropy source's answers said -/

@[simp] theorem State.setAnswers_params (s : State) (a : List EntropyAnswer) : (s.setAnswers a).params = s.params := rfl
@[simp] theorem State.setAnswers_cipher (s : State) (a : List EntropyAnswer) : (s.setAnswers a).cipher = s.cipher := rfl
@[simp] theorem State.setAnswers_keyValid (s : State) (a : List EntropyAnswer) : (s.setAnswers a).keyValid = s.keyValid := rfl
@[simp] theorem State.setAnswers_iv (s : State) (a : List EntropyAnswer) : (s.setAnswers a).iv = s.iv := rfl
@[simp] theorem State.setAnswers_ivSet (s : State) (a : List EntropyAnswer) : (s.setAnswers a).ivSet = s.ivSet := rfl
@[simp] theorem State.setAnswers_klen (s : State) (a : List EntropyAnswer) : (s.setAnswers a).klen = s.klen := rfl
@[simp] theorem State.setAnswers_ilen (s : State) (a : List EntropyAnswer) : (s.setAnswers a).ilen = s.ilen := rfl
@[simp] theorem State.setAnswers_olen (s : State) (a : List EntropyAnswer) : (s.setAnswers a).olen = s.olen := rfl
@[simp] theorem State.setAnswers_status (s : State) (a : List EntropyAnswer) : (s.setAnswers a).status = s.status := rfl
@[simp] theorem State.setAnswers_kbuf (s : State) (a : List EntropyAnswer) : (s.setAnswers a).kbuf = s.kbuf := rfl
@[simp] theorem State.setAnswers_ibuf (s : State) (a : List EntropyAnswer) : (s.setAnswers a).ibuf = s.ibuf := rfl
@[simp] theorem State.setAnswers_obuf (s : State) (a : List EntropyAnswer) : (s.setAnswers a).obuf = s.obuf := rfl
@[simp] theorem State.setAnswers_inbox (s : State) (a : List EntropyAnswer) : (s.setAnswers a).inbox = s.inbox := rfl
@[simp] theorem State.setAnswers_entropy (s : State) (a : List EntropyAnswer) : (s.setAnswers a).entropy = a := rfl
@[simp] theorem State.setAnswers_epoch (s : State) (a : List EntropyAnswer) : (s.setAnswers a).epoch = s.epoch := rfl

/-! ### A host move made -/

@[simp] theorem State.dropMove_params (s : State) : (s.dropMove).params = s.params := rfl
@[simp] theorem State.dropMove_cipher (s : State) : (s.dropMove).cipher = s.cipher := rfl
@[simp] theorem State.dropMove_keyValid (s : State) : (s.dropMove).keyValid = s.keyValid := rfl
@[simp] theorem State.dropMove_iv (s : State) : (s.dropMove).iv = s.iv := rfl
@[simp] theorem State.dropMove_ivSet (s : State) : (s.dropMove).ivSet = s.ivSet := rfl
@[simp] theorem State.dropMove_klen (s : State) : (s.dropMove).klen = s.klen := rfl
@[simp] theorem State.dropMove_ilen (s : State) : (s.dropMove).ilen = s.ilen := rfl
@[simp] theorem State.dropMove_olen (s : State) : (s.dropMove).olen = s.olen := rfl
@[simp] theorem State.dropMove_status (s : State) : (s.dropMove).status = s.status := rfl
@[simp] theorem State.dropMove_kbuf (s : State) : (s.dropMove).kbuf = s.kbuf := rfl
@[simp] theorem State.dropMove_ibuf (s : State) : (s.dropMove).ibuf = s.ibuf := rfl
@[simp] theorem State.dropMove_obuf (s : State) : (s.dropMove).obuf = s.obuf := rfl
@[simp] theorem State.dropMove_inbox (s : State) : (s.dropMove).inbox = s.inbox.tail := rfl
@[simp] theorem State.dropMove_entropy (s : State) : (s.dropMove).entropy = s.entropy := rfl
@[simp] theorem State.dropMove_epoch (s : State) : (s.dropMove).epoch = s.epoch := rfl

/-! ### LOADKEY's commit -/

@[simp] theorem State.commitKey_params (s : State) (c : CipherState) : (s.commitKey c).params = s.params := rfl
@[simp] theorem State.commitKey_cipher (s : State) (c : CipherState) : (s.commitKey c).cipher = c := rfl
@[simp] theorem State.commitKey_keyValid (s : State) (c : CipherState) : (s.commitKey c).keyValid = true := rfl
@[simp] theorem State.commitKey_iv (s : State) (c : CipherState) : (s.commitKey c).iv = freeBlock .iv s.epoch := rfl
@[simp] theorem State.commitKey_ivSet (s : State) (c : CipherState) : (s.commitKey c).ivSet = false := rfl
@[simp] theorem State.commitKey_klen (s : State) (c : CipherState) : (s.commitKey c).klen = s.klen := rfl
@[simp] theorem State.commitKey_ilen (s : State) (c : CipherState) : (s.commitKey c).ilen = s.ilen := rfl
@[simp] theorem State.commitKey_olen (s : State) (c : CipherState) : (s.commitKey c).olen = s.olen := rfl
@[simp] theorem State.commitKey_status (s : State) (c : CipherState) : (s.commitKey c).status = s.status := rfl
@[simp] theorem State.commitKey_kbuf (s : State) (c : CipherState) : (s.commitKey c).kbuf = s.kbuf := rfl
@[simp] theorem State.commitKey_ibuf (s : State) (c : CipherState) : (s.commitKey c).ibuf = s.ibuf := rfl
@[simp] theorem State.commitKey_obuf (s : State) (c : CipherState) : (s.commitKey c).obuf = s.obuf := rfl
@[simp] theorem State.commitKey_inbox (s : State) (c : CipherState) : (s.commitKey c).inbox = s.inbox := rfl
@[simp] theorem State.commitKey_entropy (s : State) (c : CipherState) : (s.commitKey c).entropy = s.entropy := rfl
@[simp] theorem State.commitKey_epoch (s : State) (c : CipherState) : (s.commitKey c).epoch = s.epoch := rfl

/-! ### SETIV -/

@[simp] theorem State.storeIv_params (s : State) (b : Block) : (s.storeIv b).params = s.params := rfl
@[simp] theorem State.storeIv_cipher (s : State) (b : Block) : (s.storeIv b).cipher = s.cipher := rfl
@[simp] theorem State.storeIv_keyValid (s : State) (b : Block) : (s.storeIv b).keyValid = s.keyValid := rfl
@[simp] theorem State.storeIv_iv (s : State) (b : Block) : (s.storeIv b).iv = b := rfl
@[simp] theorem State.storeIv_ivSet (s : State) (b : Block) : (s.storeIv b).ivSet = true := rfl
@[simp] theorem State.storeIv_klen (s : State) (b : Block) : (s.storeIv b).klen = s.klen := rfl
@[simp] theorem State.storeIv_ilen (s : State) (b : Block) : (s.storeIv b).ilen = s.ilen := rfl
@[simp] theorem State.storeIv_olen (s : State) (b : Block) : (s.storeIv b).olen = s.olen := rfl
@[simp] theorem State.storeIv_status (s : State) (b : Block) : (s.storeIv b).status = s.status := rfl
@[simp] theorem State.storeIv_kbuf (s : State) (b : Block) : (s.storeIv b).kbuf = s.kbuf := rfl
@[simp] theorem State.storeIv_ibuf (s : State) (b : Block) : (s.storeIv b).ibuf = s.ibuf := rfl
@[simp] theorem State.storeIv_obuf (s : State) (b : Block) : (s.storeIv b).obuf = s.obuf := rfl
@[simp] theorem State.storeIv_inbox (s : State) (b : Block) : (s.storeIv b).inbox = s.inbox := rfl
@[simp] theorem State.storeIv_entropy (s : State) (b : Block) : (s.storeIv b).entropy = s.entropy := rfl
@[simp] theorem State.storeIv_epoch (s : State) (b : Block) : (s.storeIv b).epoch = s.epoch := rfl

/-! ### ENCCBC -/

@[simp] theorem State.consumeIv_params (s : State) (b : Block) : (s.consumeIv b).params = s.params := rfl
@[simp] theorem State.consumeIv_cipher (s : State) (b : Block) : (s.consumeIv b).cipher = s.cipher := rfl
@[simp] theorem State.consumeIv_keyValid (s : State) (b : Block) : (s.consumeIv b).keyValid = s.keyValid := rfl
@[simp] theorem State.consumeIv_iv (s : State) (b : Block) : (s.consumeIv b).iv = b := rfl
@[simp] theorem State.consumeIv_ivSet (s : State) (b : Block) : (s.consumeIv b).ivSet = false := rfl
@[simp] theorem State.consumeIv_klen (s : State) (b : Block) : (s.consumeIv b).klen = s.klen := rfl
@[simp] theorem State.consumeIv_ilen (s : State) (b : Block) : (s.consumeIv b).ilen = s.ilen := rfl
@[simp] theorem State.consumeIv_olen (s : State) (b : Block) : (s.consumeIv b).olen = s.olen := rfl
@[simp] theorem State.consumeIv_status (s : State) (b : Block) : (s.consumeIv b).status = s.status := rfl
@[simp] theorem State.consumeIv_kbuf (s : State) (b : Block) : (s.consumeIv b).kbuf = s.kbuf := rfl
@[simp] theorem State.consumeIv_ibuf (s : State) (b : Block) : (s.consumeIv b).ibuf = s.ibuf := rfl
@[simp] theorem State.consumeIv_obuf (s : State) (b : Block) : (s.consumeIv b).obuf = s.obuf := rfl
@[simp] theorem State.consumeIv_inbox (s : State) (b : Block) : (s.consumeIv b).inbox = s.inbox := rfl
@[simp] theorem State.consumeIv_entropy (s : State) (b : Block) : (s.consumeIv b).entropy = s.entropy := rfl
@[simp] theorem State.consumeIv_epoch (s : State) (b : Block) : (s.consumeIv b).epoch = s.epoch := rfl

/-! ### A host write of `KBUF` -/

@[simp] theorem State.setKbufByte_params (s : State) (off : Nat) (v : Byte) : (s.setKbufByte off v).params = s.params := rfl
@[simp] theorem State.setKbufByte_cipher (s : State) (off : Nat) (v : Byte) : (s.setKbufByte off v).cipher = s.cipher := rfl
@[simp] theorem State.setKbufByte_keyValid (s : State) (off : Nat) (v : Byte) : (s.setKbufByte off v).keyValid = s.keyValid := rfl
@[simp] theorem State.setKbufByte_iv (s : State) (off : Nat) (v : Byte) : (s.setKbufByte off v).iv = s.iv := rfl
@[simp] theorem State.setKbufByte_ivSet (s : State) (off : Nat) (v : Byte) : (s.setKbufByte off v).ivSet = s.ivSet := rfl
@[simp] theorem State.setKbufByte_klen (s : State) (off : Nat) (v : Byte) : (s.setKbufByte off v).klen = s.klen := rfl
@[simp] theorem State.setKbufByte_ilen (s : State) (off : Nat) (v : Byte) : (s.setKbufByte off v).ilen = s.ilen := rfl
@[simp] theorem State.setKbufByte_olen (s : State) (off : Nat) (v : Byte) : (s.setKbufByte off v).olen = s.olen := rfl
@[simp] theorem State.setKbufByte_status (s : State) (off : Nat) (v : Byte) : (s.setKbufByte off v).status = s.status := rfl
@[simp] theorem State.setKbufByte_kbuf (s : State) (off : Nat) (v : Byte) : (s.setKbufByte off v).kbuf = s.kbuf.write off v := rfl
@[simp] theorem State.setKbufByte_ibuf (s : State) (off : Nat) (v : Byte) : (s.setKbufByte off v).ibuf = s.ibuf := rfl
@[simp] theorem State.setKbufByte_obuf (s : State) (off : Nat) (v : Byte) : (s.setKbufByte off v).obuf = s.obuf := rfl
@[simp] theorem State.setKbufByte_inbox (s : State) (off : Nat) (v : Byte) : (s.setKbufByte off v).inbox = s.inbox := rfl
@[simp] theorem State.setKbufByte_entropy (s : State) (off : Nat) (v : Byte) : (s.setKbufByte off v).entropy = s.entropy := rfl
@[simp] theorem State.setKbufByte_epoch (s : State) (off : Nat) (v : Byte) : (s.setKbufByte off v).epoch = s.epoch := rfl

/-! ### A host write of `IBUF` -/

@[simp] theorem State.setIbufByte_params (s : State) (off : Nat) (v : Byte) : (s.setIbufByte off v).params = s.params := rfl
@[simp] theorem State.setIbufByte_cipher (s : State) (off : Nat) (v : Byte) : (s.setIbufByte off v).cipher = s.cipher := rfl
@[simp] theorem State.setIbufByte_keyValid (s : State) (off : Nat) (v : Byte) : (s.setIbufByte off v).keyValid = s.keyValid := rfl
@[simp] theorem State.setIbufByte_iv (s : State) (off : Nat) (v : Byte) : (s.setIbufByte off v).iv = s.iv := rfl
@[simp] theorem State.setIbufByte_ivSet (s : State) (off : Nat) (v : Byte) : (s.setIbufByte off v).ivSet = s.ivSet := rfl
@[simp] theorem State.setIbufByte_klen (s : State) (off : Nat) (v : Byte) : (s.setIbufByte off v).klen = s.klen := rfl
@[simp] theorem State.setIbufByte_ilen (s : State) (off : Nat) (v : Byte) : (s.setIbufByte off v).ilen = s.ilen := rfl
@[simp] theorem State.setIbufByte_olen (s : State) (off : Nat) (v : Byte) : (s.setIbufByte off v).olen = s.olen := rfl
@[simp] theorem State.setIbufByte_status (s : State) (off : Nat) (v : Byte) : (s.setIbufByte off v).status = s.status := rfl
@[simp] theorem State.setIbufByte_kbuf (s : State) (off : Nat) (v : Byte) : (s.setIbufByte off v).kbuf = s.kbuf := rfl
@[simp] theorem State.setIbufByte_ibuf (s : State) (off : Nat) (v : Byte) : (s.setIbufByte off v).ibuf = s.ibuf.write off v := rfl
@[simp] theorem State.setIbufByte_obuf (s : State) (off : Nat) (v : Byte) : (s.setIbufByte off v).obuf = s.obuf := rfl
@[simp] theorem State.setIbufByte_inbox (s : State) (off : Nat) (v : Byte) : (s.setIbufByte off v).inbox = s.inbox := rfl
@[simp] theorem State.setIbufByte_entropy (s : State) (off : Nat) (v : Byte) : (s.setIbufByte off v).entropy = s.entropy := rfl
@[simp] theorem State.setIbufByte_epoch (s : State) (off : Nat) (v : Byte) : (s.setIbufByte off v).epoch = s.epoch := rfl

/-! ### A host write of `KLEN` -/

@[simp] theorem State.setKlen_params (s : State) (n : Nat) : (s.setKlen n).params = s.params := rfl
@[simp] theorem State.setKlen_cipher (s : State) (n : Nat) : (s.setKlen n).cipher = s.cipher := rfl
@[simp] theorem State.setKlen_keyValid (s : State) (n : Nat) : (s.setKlen n).keyValid = s.keyValid := rfl
@[simp] theorem State.setKlen_iv (s : State) (n : Nat) : (s.setKlen n).iv = s.iv := rfl
@[simp] theorem State.setKlen_ivSet (s : State) (n : Nat) : (s.setKlen n).ivSet = s.ivSet := rfl
@[simp] theorem State.setKlen_klen (s : State) (n : Nat) : (s.setKlen n).klen = n := rfl
@[simp] theorem State.setKlen_ilen (s : State) (n : Nat) : (s.setKlen n).ilen = s.ilen := rfl
@[simp] theorem State.setKlen_olen (s : State) (n : Nat) : (s.setKlen n).olen = s.olen := rfl
@[simp] theorem State.setKlen_status (s : State) (n : Nat) : (s.setKlen n).status = s.status := rfl
@[simp] theorem State.setKlen_kbuf (s : State) (n : Nat) : (s.setKlen n).kbuf = s.kbuf := rfl
@[simp] theorem State.setKlen_ibuf (s : State) (n : Nat) : (s.setKlen n).ibuf = s.ibuf := rfl
@[simp] theorem State.setKlen_obuf (s : State) (n : Nat) : (s.setKlen n).obuf = s.obuf := rfl
@[simp] theorem State.setKlen_inbox (s : State) (n : Nat) : (s.setKlen n).inbox = s.inbox := rfl
@[simp] theorem State.setKlen_entropy (s : State) (n : Nat) : (s.setKlen n).entropy = s.entropy := rfl
@[simp] theorem State.setKlen_epoch (s : State) (n : Nat) : (s.setKlen n).epoch = s.epoch := rfl

/-! ### A host write of `ILEN` -/

@[simp] theorem State.setIlen_params (s : State) (n : Nat) : (s.setIlen n).params = s.params := rfl
@[simp] theorem State.setIlen_cipher (s : State) (n : Nat) : (s.setIlen n).cipher = s.cipher := rfl
@[simp] theorem State.setIlen_keyValid (s : State) (n : Nat) : (s.setIlen n).keyValid = s.keyValid := rfl
@[simp] theorem State.setIlen_iv (s : State) (n : Nat) : (s.setIlen n).iv = s.iv := rfl
@[simp] theorem State.setIlen_ivSet (s : State) (n : Nat) : (s.setIlen n).ivSet = s.ivSet := rfl
@[simp] theorem State.setIlen_klen (s : State) (n : Nat) : (s.setIlen n).klen = s.klen := rfl
@[simp] theorem State.setIlen_ilen (s : State) (n : Nat) : (s.setIlen n).ilen = n := rfl
@[simp] theorem State.setIlen_olen (s : State) (n : Nat) : (s.setIlen n).olen = s.olen := rfl
@[simp] theorem State.setIlen_status (s : State) (n : Nat) : (s.setIlen n).status = s.status := rfl
@[simp] theorem State.setIlen_kbuf (s : State) (n : Nat) : (s.setIlen n).kbuf = s.kbuf := rfl
@[simp] theorem State.setIlen_ibuf (s : State) (n : Nat) : (s.setIlen n).ibuf = s.ibuf := rfl
@[simp] theorem State.setIlen_obuf (s : State) (n : Nat) : (s.setIlen n).obuf = s.obuf := rfl
@[simp] theorem State.setIlen_inbox (s : State) (n : Nat) : (s.setIlen n).inbox = s.inbox := rfl
@[simp] theorem State.setIlen_entropy (s : State) (n : Nat) : (s.setIlen n).entropy = s.entropy := rfl
@[simp] theorem State.setIlen_epoch (s : State) (n : Nat) : (s.setIlen n).epoch = s.epoch := rfl

/-! ### The reset line -/

@[simp] theorem State.resetLine_params (s : State) : (s.resetLine).params = s.params := rfl
@[simp] theorem State.resetLine_cipher (s : State) : (s.resetLine).cipher = freeCipherState s.epoch := rfl
@[simp] theorem State.resetLine_keyValid (s : State) : (s.resetLine).keyValid = false := rfl
@[simp] theorem State.resetLine_iv (s : State) : (s.resetLine).iv = freeBlock .iv s.epoch := rfl
@[simp] theorem State.resetLine_ivSet (s : State) : (s.resetLine).ivSet = false := rfl
@[simp] theorem State.resetLine_klen (s : State) : (s.resetLine).klen = 0 := rfl
@[simp] theorem State.resetLine_ilen (s : State) : (s.resetLine).ilen = 0 := rfl
@[simp] theorem State.resetLine_olen (s : State) : (s.resetLine).olen = 0 := rfl
@[simp] theorem State.resetLine_status (s : State) : (s.resetLine).status = 0x00#8 := rfl
@[simp] theorem State.resetLine_kbuf (s : State) : (s.resetLine).kbuf = .blank .kbuf s.epoch := rfl
@[simp] theorem State.resetLine_ibuf (s : State) : (s.resetLine).ibuf = .blank .ibuf s.epoch := rfl
@[simp] theorem State.resetLine_obuf (s : State) : (s.resetLine).obuf = .blank .obuf s.epoch := rfl
@[simp] theorem State.resetLine_inbox (s : State) : (s.resetLine).inbox = s.inbox := rfl
@[simp] theorem State.resetLine_entropy (s : State) : (s.resetLine).entropy = s.entropy := rfl
@[simp] theorem State.resetLine_epoch (s : State) : (s.resetLine).epoch = s.epoch + 1 := rfl

end Sys2Proof.Machine
end

