-- ==== Sys2Proof/Laws/Commands.lean ====
section
/-! SUPPORT. What the shared operations and a step can do, said once: the checks of the commands, raising, completing,
running a command byte, and the host's moves. -/

namespace Sys2Proof.Machine

theorem KeepsInputs.refl (s : State) : KeepsInputs s s := ⟨rfl, rfl, fun _ => rfl, fun _ => rfl, rfl, rfl⟩

theorem KeepsInstance.refl (s : State) : KeepsInstance s s := ⟨rfl, rfl, rfl, rfl⟩

/-- Raising an error leaves what rule R195 says it leaves. -/
theorem State.raise_raises (s : State) (e : EngineError) : Raises s (s.raise e) e :=
  ⟨rfl, rfl, fun _ => rfl, ⟨rfl, rfl, rfl, rfl⟩, ⟨rfl, rfl, fun _ => rfl, fun _ => rfl, rfl, rfl⟩⟩

/-- Completing a command delivers its result. -/
theorem State.complete_delivers (s : State) (out : List Byte) : Delivers (s.complete out) out := by
  refine ⟨rfl, rfl, fun i h => ?_, fun a h => ?_⟩
  · have := Memory.read_writeBytes_inside (Memory.blank .obuf s.epoch) 0 out i h
    simpa using this
  · rw [State.get?_obuf_complete]
    exact List.getElem?_eq_none h

/-- Completing a command changes nothing but its outputs. -/
theorem State.complete_keeps (s : State) (out : List Byte) :
    KeepsInstance s (s.complete out) ∧ KeepsInputs s (s.complete out) :=
  ⟨⟨rfl, rfl, rfl, rfl⟩, ⟨rfl, rfl, fun _ => rfl, fun _ => rfl, rfl, rfl⟩⟩

/-- The instance check: either the schedule is loaded and the command goes on, or it raises `NoKey`. -/
theorem requireKey_next {s t : State} {body : Host.Outcome State Fault Refusal} :
    requireKey s body = .next t ↔
      (s.keyValid = true ∧ body = .next t) ∨ (s.keyValid = false ∧ t = s.raise .noKey) := by
  unfold requireKey
  cases s.keyValid <;> simp [eq_comm]

/-- A length check: either the length is accepted and the command goes on, or it raises its error. -/
theorem requireLength_next {s t : State} {ok : Bool} {e : EngineError} {body : Host.Outcome State Fault Refusal} :
    requireLength s ok e body = .next t ↔ (ok = true ∧ body = .next t) ∨ (ok = false ∧ t = s.raise e) := by
  unfold requireLength
  cases ok <;> simp [eq_comm]

@[simp] theorem requireKey_of_key {s : State} (h : s.keyValid = true) (body : Host.Outcome State Fault Refusal) :
    requireKey s body = body := by
  simp [requireKey, h]

@[simp] theorem requireKey_of_no_key {s : State} (h : s.keyValid = false) (body : Host.Outcome State Fault Refusal) :
    requireKey s body = .next (s.raise .noKey) := by
  simp [requireKey, h]

/-- R55: a result is at most 16 bytes longer than the input, so it fits when the input does. -/
theorem resultLength_le (i : Instr) (n : Nat) : resultLength i n ≤ n + 16 := by
  cases i <;> simp only [resultLength, paddedLength, Config.blockBytes] <;> omega

/-- What is refused at the host interface: an `ILEN` beyond `MAXLEN`, and nothing else. -/
theorem hostRefusal_eq (maxLen : Option Nat) (i : Instr) (n : Nat) :
    hostRefusal Config.rounds maxLen i n = if ∃ m, maxLen = some m ∧ m < n then some .beyondCapacity else none := by
  have := resultLength_le i n
  cases maxLen with
  | none => simp [hostRefusal]
  | some m =>
    have : (m < n ∨ m + 16 < resultLength i n) ↔ m < n := by omega
    simp [hostRefusal, this]

/-- A command the platform can hold is not refused. -/
theorem Presentable.not_refused {s : State} (h : Presentable s) (i : Instr) :
    hostRefusal Config.rounds s.params.maxLen i s.ilen = none := by
  rw [hostRefusal_eq, if_neg]
  rintro ⟨m, hm, hlt⟩
  exact absurd (h m hm) (by omega)

/-- Running a command byte the platform can hold: the command it decodes to, or `IllegalCommand`. -/
theorem runCommand_eq {s : State} (h : Presentable s) (c : Byte) :
    runCommand c s = match decode c with
      | .error _ => .next (s.raise .illegalCommand)
      | .ok i => exec i s := by
  unfold runCommand
  cases decode c <;> simp [h.not_refused]

/-- Everything a command byte that is not refused does. -/
theorem runCommand_next {c : Byte} {s t : State} (h : runCommand c s = .next t) :
    (∃ e, decode c = .error e ∧ t = s.raise .illegalCommand) ∨ ∃ i, decode c = .ok i ∧ exec i s = .next t := by
  unfold runCommand at h
  split at h
  · cases h
    exact .inl ⟨_, ‹_›, rfl⟩
  · split at h
    · cases h
    · exact .inr ⟨_, ‹_›, h⟩

/-- Everything a command can do: raise one of its errors, a failed draw used up or not, or complete with what it writes
of the instance. -/
theorem exec_next {i : Instr} {s t : State} (h : exec i s = .next t) :
    (∃ e ∈ possibleErrors i, ∃ s', t = s'.raise e ∧ (s' = s ∨ (i = .enccbc ∧ s' = s.dropAnswer))) ∨
    (∃ s' out, t = s'.complete out ∧ (needsKey i = true → s.keyValid = true) ∧
      (s' = s ∧ i ≠ .loadkey ∧ i ≠ .setiv ∧ i ≠ .enccbc ∨ (i = .loadkey ∧ out = [] ∧ ∃ c, s' = s.commitKey c) ∨
      (i = .setiv ∧ ∃ b, s' = s.storeIv b) ∨
      (i = .enccbc ∧ ((s.ivSet = true ∧ s' = s.consumeIv s.iv) ∨
        ∃ b, s.ivSet = false ∧ s' = s.dropAnswer.consumeIv b)))) := by
  cases i <;> simp only [exec, execLoadkey, execSetiv, execEncblk, execDecblk, execPad, execPadiv, execUnpad,
    execEncecb, execDececb, execEnccbc, execDeccbc, requireKey_next, requireLength_next] at h
  case loadkey =>
    rcases h with ⟨_, h⟩ | ⟨_, rfl⟩
    · cases h
      exact .inr ⟨_, _, rfl, by simp [needsKey], .inr (.inl ⟨rfl, rfl, _, rfl⟩)⟩
    · exact .inl ⟨_, by simp [possibleErrors], s, rfl, .inl rfl⟩
  case pad =>
    cases h
    exact .inr ⟨_, _, rfl, by simp [needsKey], .inl (by simp)⟩
  case padiv =>
    cases h
    exact .inr ⟨_, _, rfl, by simp [needsKey], .inl (by simp)⟩
  case unpad =>
    rcases h with ⟨_, h⟩ | ⟨_, rfl⟩
    · cases h
      exact .inr ⟨_, _, rfl, by simp [needsKey], .inl (by simp)⟩
    · exact .inl ⟨_, by simp [possibleErrors], s, rfl, .inl rfl⟩
  case setiv =>
    rcases h with ⟨hk, ⟨_, h⟩ | ⟨_, rfl⟩⟩ | ⟨_, rfl⟩
    · cases h
      exact .inr ⟨_, _, rfl, fun _ => hk, .inr (.inr (.inl ⟨rfl, _, rfl⟩))⟩
    · exact .inl ⟨_, by simp [possibleErrors], s, rfl, .inl rfl⟩
    · exact .inl ⟨_, by simp [possibleErrors], s, rfl, .inl rfl⟩
  case encecb =>
    rcases h with ⟨hk, h⟩ | ⟨_, rfl⟩
    · cases h
      exact .inr ⟨_, _, rfl, fun _ => hk, .inl (by simp)⟩
    · exact .inl ⟨_, by simp [possibleErrors], s, rfl, .inl rfl⟩
  case enccbc =>
    rcases h with ⟨hk, h⟩ | ⟨_, rfl⟩
    · split at h
      · cases h
        exact .inr ⟨_, _, rfl, fun _ => hk, .inr (.inr (.inr ⟨rfl, .inl ⟨‹_›, rfl⟩⟩))⟩
      · split at h
        · cases h
          exact .inl ⟨_, by simp [possibleErrors], _, rfl, .inr ⟨rfl, rfl⟩⟩
        · cases h
          exact .inr ⟨_, _, rfl, fun _ => hk, .inr (.inr (.inr ⟨rfl, .inr ⟨_, by simp_all, rfl⟩⟩))⟩
    · exact .inl ⟨_, by simp [possibleErrors], s, rfl, .inl rfl⟩
  all_goals
    rcases h with ⟨hk, ⟨_, h⟩ | ⟨_, rfl⟩⟩ | ⟨_, rfl⟩
    · cases h
      exact .inr ⟨_, _, rfl, fun _ => hk, .inl (by simp)⟩
    · exact .inl ⟨_, by simp [possibleErrors], s, rfl, .inl rfl⟩
    · exact .inl ⟨_, by simp [possibleErrors], s, rfl, .inl rfl⟩

/-- Everything a step can do. -/
theorem step_next {s t : State} (h : step s = .next t) :
    (s.inbox = [] ∧ t = s) ∨
    (∃ c rest, s.inbox = .writeCmd c :: rest ∧ runCommand c s.dropMove = .next t) ∨
    (∃ m rest, s.inbox = m :: rest ∧ (∀ c, m ≠ .writeCmd c) ∧ t = hostMoved m s.dropMove) := by
  unfold step at h
  split at h
  · rename_i he
    exact .inl ⟨he, by simpa using h.symm⟩
  · rename_i c rest he
    exact .inr (.inl ⟨c, rest, he, h⟩)
  · rename_i m rest hne he
    exact .inr (.inr ⟨m, rest, he, fun c hc => hne c hc, by simpa using h.symm⟩)

/-! ### Operands -/

/-- The input operand is the input the host placed. -/
theorem InputIs.operand {s : State} {data : List Byte} (h : InputIs s data) : s.inputOperand = data := by
  apply List.ext_getElem
  · rw [length_inputOperand, h.length]
  · intro i _ h2
    simp [State.inputOperand, h.bytes i h2]

/-- The key operand is the key the host placed. -/
theorem KeyIs.operand {s : State} {key : List Byte} (h : KeyIs s key) : s.keyOperand = key := by
  apply List.ext_getElem
  · rw [length_keyOperand, h.length]
  · intro i _ h2
    simp [State.keyOperand, h.bytes i h2]

/-- The block operand is the block the host placed. -/
theorem InputIs.block {s : State} {b : Block} (h : InputIs s b.toList) : s.blockOperand = b := by
  ext i hi
  have := h.bytes i (by simpa using hi)
  simp [State.blockOperand, Memory.readBlock, this]

/-- A byte of a block of a byte sequence. -/
@[simp] theorem getElem_blockAt (x : List Byte) (k i : Nat) (h : i < 8) : (blockAt x k)[i] = x.getD (8 * k + i) 0 := by
  simp [blockAt]

/-- What a command delivers is its result. -/
theorem Delivers.result_eq {t : State} {out : List Byte} (h : Delivers t out) : t.result = out := by
  apply List.ext_getElem
  · simp [State.result, h.olen]
  · intro i _ h2
    simp [State.result, h.bytes i h2]

end Sys2Proof.Machine
end

