-- ==== Sys2Proof/Laws/Modes.lean ====
section
/-! SUPPORT. What the backward scan, the padding, the block loops and the chains do, said once
(spec/42_padding.md R141 to R147, spec/43_ecb.md R161, spec/44_cbc.md R177, R183). -/

namespace Sys2Proof.Machine

/-- The scan over the first `n` bytes: it ends at most at `n`, from its end to `n` every byte is the final one, and the
byte before its end is another. -/
theorem unpadScan_spec (buf : List Byte) (last : Byte) (n : Nat) :
    unpadScan buf last n ≤ n ∧ (∀ i, unpadScan buf last n ≤ i → i < n → buf.getD i 0 = last) ∧
    (∀ i, i + 1 = unpadScan buf last n → buf.getD i 0 ≠ last) := by
  induction n with
  | zero => simp [unpadScan]
  | succ n ih =>
    obtain ⟨hle, hrun, hstop⟩ := ih
    simp only [unpadScan]
    split
    · rename_i h
      refine ⟨by omega, fun i h1 h2 => ?_, hstop⟩
      by_cases e : i = n
      · subst e
        exact h
      · exact hrun i h1 (by omega)
    · rename_i h
      refine ⟨by omega, fun i h1 h2 => by omega, fun i e => ?_⟩
      have : i = n := by omega
      subst this
      exact h

/-- A byte of the padding is the fill. -/
theorem getElem_padBody_fill (e : Byte) (data : List Byte) (i : Nat) (h : i < (padBody e data).length)
    (hi : data.length ≤ i) : (padBody e data)[i] = fillByte e data := by
  simp only [padBody]
  rw [List.getElem_append_right hi]
  simp

/-! ### Blocks of a byte sequence -/

@[simp] theorem blockAt_block_append_zero (b : Block) (rest : List Byte) : blockAt (b.toList ++ rest) 0 = b := by
  apply Vector.ext
  intro i hi
  simp [List.getElem?_append, hi]

@[simp] theorem blockAt_block_append_succ (b : Block) (rest : List Byte) (k : Nat) :
    blockAt (b.toList ++ rest) (k + 1) = blockAt rest k := by
  apply Vector.ext
  intro i hi
  rw [getElem_blockAt, getElem_blockAt, List.getD_eq_getElem?_getD, List.getD_eq_getElem?_getD,
    List.getElem?_append_right (by simp; omega), Vector.length_toList, show 8 * (k + 1) + i - 8 = 8 * k + i by omega]

/-- A block of a sequence put together from blocks. -/
theorem blockAt_bytesOf (bs : List Block) (k : Nat) (h : k < bs.length) : blockAt (bytesOf bs) k = bs[k] := by
  induction bs generalizing k with
  | nil => simp at h
  | cons b bs ih =>
    cases k with
    | zero => simp
    | succ k => simp [ih k (by simpa using h)]

/-- A block of a sequence of whole blocks is the block that cutting it gives. -/
theorem blockAt_eq_getElem_blocksOf (l : List Byte) (h : l.length % 8 = 0) (k : Nat) (hk : k < l.length / 8) :
    blockAt l k = (blocksOf l)[k]'(by rw [length_blocksOf l h]; exact hk) := by
  conv_lhs => rw [← bytesOf_blocksOf l h]
  exact blockAt_bytesOf _ _ _

/-! ### The block loops -/

/-- The ECB loop keeps the length of a sequence of whole blocks. -/
theorem length_ecbLoop (f : Block → Block) (l : List Byte) (h : l.length % 8 = 0) :
    (ecbLoop f l).length = l.length := by
  simp only [ecbLoop, length_bytesOf, List.length_map, length_blocksOf l h]
  omega

/-- The ECB loop transforms every block on its own. -/
theorem blockAt_ecbLoop (f : Block → Block) (l : List Byte) (h : l.length % 8 = 0) (k : Nat)
    (hk : k < l.length / 8) : blockAt (ecbLoop f l) k = f (blockAt l k) := by
  rw [blockAt_eq_getElem_blocksOf l h k hk, ecbLoop, blockAt_bytesOf _ _ (by simpa [length_blocksOf l h] using hk)]
  simp

/-- A loop over a sequence that begins with a block leaves that block in front of its chain. -/
theorem cbcLoop_block_append (chain : Block → List Block → List Block) (iv : Block) (rest : List Byte) :
    cbcLoop chain (iv.toList ++ rest) = iv.toList ++ bytesOf (chain iv (blocksOf rest)) := by
  simp [cbcLoop]

/-- A block of the enciphering chain depends on the block of the result before it. -/
theorem blockAt_cbcEncipher (c : CipherState) (iv : Block) (ms : List Block) (k : Nat) (hk : k < ms.length) :
    blockAt (bytesOf (iv :: cbcEncipher c iv ms)) (k + 1) =
      encBlock c (xor8 ms[k] (blockAt (bytesOf (iv :: cbcEncipher c iv ms)) k)) := by
  induction ms generalizing iv k with
  | nil => simp at hk
  | cons m ms ih =>
    rw [bytesOf_cons, blockAt_block_append_succ]
    cases k with
    | zero => simp [cbcEncipher]
    | succ k =>
      rw [blockAt_block_append_succ]
      simp only [cbcEncipher]
      rw [ih _ k (by simpa using hk)]
      rfl

/-- A block of the un-chaining depends on two neighbouring blocks of the input. -/
theorem blockAt_cbcDecipher (c : CipherState) (iv : Block) (cs : List Block) (k : Nat) (hk : k < cs.length) :
    blockAt (bytesOf (iv :: cbcDecipher c iv cs)) (k + 1) =
      xor8 (decBlock c cs[k]) ((iv :: cs)[k]'(by simp; omega)) := by
  induction cs generalizing iv k with
  | nil => simp at hk
  | cons m ms ih =>
    rw [bytesOf_cons, blockAt_block_append_succ]
    cases k with
    | zero => simp [cbcDecipher]
    | succ k =>
      have := ih m k (by simpa using hk)
      rw [bytesOf_cons, blockAt_block_append_succ] at this
      simp only [cbcDecipher]
      rw [bytesOf_cons, blockAt_block_append_succ, this]
      rfl

end Sys2Proof.Machine
end

