-- ==== Sys2Proof/Laws/PerInstr.lean ====
section
/-! SUPPORT. Statements about every command, one lemma for each constructor of Instr. -/

namespace Sys2Proof.Laws.EncodedByte

/-- The command byte of a command is a legal one, and the table's numbering reads it as that command. -/
def Statement (i : Instr) : Prop :=
  commandByteLegal (encode i) = true ∧ decodeTableWord 8 (encode i).toNat = some i

theorem loadkey : Statement .loadkey := ⟨rfl, rfl⟩
theorem setiv : Statement .setiv := ⟨rfl, rfl⟩
theorem encblk : Statement .encblk := ⟨rfl, rfl⟩
theorem decblk : Statement .decblk := ⟨rfl, rfl⟩
theorem pad : Statement .pad := ⟨rfl, rfl⟩
theorem padiv : Statement .padiv := ⟨rfl, rfl⟩
theorem unpad : Statement .unpad := ⟨rfl, rfl⟩
theorem encecb : Statement .encecb := ⟨rfl, rfl⟩
theorem dececb : Statement .dececb := ⟨rfl, rfl⟩
theorem enccbc : Statement .enccbc := ⟨rfl, rfl⟩
theorem deccbc : Statement .deccbc := ⟨rfl, rfl⟩

end Sys2Proof.Laws.EncodedByte
end

