-- ==== Sys2Proof/Laws/Schedule.lean ====
section
/-! SUPPORT. What one encipherment of the key schedule writes (spec/40_key_schedule.md R104, R105). -/

namespace Sys2Proof.Machine

/-- The running block and the tables after an encipherment of step 3. -/
theorem fillRoundKeys_rest (w : Schedule) (i : Nat) :
    (fillRoundKeys w i).running = encipher w.cipher w.running ∧ (fillRoundKeys w i).cipher.s = w.cipher.s :=
  ⟨rfl, rfl⟩

/-- The round keys after an encipherment of step 3: its halves at `i` and `i + 1`, every other word as it was. -/
theorem fillRoundKeys_getElem (w : Schedule) (i j : Nat) (hj : j < 18) :
    (fillRoundKeys w i).cipher.p[j] =
      if j = i then (encipher w.cipher w.running).1
      else if j = i + 1 then (encipher w.cipher w.running).2
      else w.cipher.p[j] := by
  simp only [fillRoundKeys, Vector.getElem_setIfInBounds]
  by_cases h : j = i
  · simp [h]
  · by_cases h' : j = i + 1
    · simp [h']
    · simp [h, h', Ne.symm h, Ne.symm h']

/-- The running block and the round keys after an encipherment of step 4. -/
theorem fillSbox_rest (k : Fin 4) (w : Schedule) (i : Nat) :
    (fillSbox k w i).running = encipher w.cipher w.running ∧ (fillSbox k w i).cipher.p = w.cipher.p :=
  ⟨rfl, rfl⟩

/-- The tables after an encipherment of step 4: its halves at `i` and `i + 1` of table `k`, every other entry as it
was. -/
theorem fillSbox_getElem (k : Fin 4) (w : Schedule) (i l j : Nat) (hl : l < 4) (hj : j < 256) :
    (fillSbox k w i).cipher.s[l][j] =
      if l = k.val ∧ j = i then (encipher w.cipher w.running).1
      else if l = k.val ∧ j = i + 1 then (encipher w.cipher w.running).2
      else w.cipher.s[l][j] := by
  obtain ⟨k, hk⟩ := k
  simp only [fillSbox, Vector.getElem_set]
  by_cases hkl : k = l
  · subst hkl
    by_cases h : j = i
    · simp [h]
    · by_cases h' : j = i + 1
      · simp [h']
      · simp [h, h', Ne.symm h, Ne.symm h']
  · simp [hkl, Ne.symm hkl]

end Sys2Proof.Machine
end

