-- ==== Sys2Proof/Tests/Slice0.lean ====
section
/-! SUPPORT. The model's own tests. Expected values are those of spec/95_test_vectors.md (cited as V1, V2, …), of the rules'
worked examples, or worked out by hand from them as said. After them, for every statement with hypotheses, a witness: a
concrete state and operands that meet them all, and the boundary values of its clauses. -/

namespace Sys2Proof.Tests

open Sys2Proof.Machine

/-! ### Small states -/

/-- `n` bytes with one value. -/
def rep (v : Byte) (n : Nat) : List Byte := List.replicate n v

/-- The block 00 01 … 07 of vector V41. -/
def countingIv : Block := #v[0x00, 0x01, 0x02, 0x03, 0x04, 0x05, 0x06, 0x07]

/-- The block 706D9FCC1792D23A, which vector V15 says the bare constants make of the zero block. -/
def firstCall : Block := #v[0x70, 0x6D, 0x9F, 0xCC, 0x17, 0x92, 0xD2, 0x3A]

/-- The zero block. -/
def zeroBlock : Block := Vector.replicate 8 0

/-- An engine whose schedule is the bare constants: every rule of the block core and of the modes holds for any schedule
(R125), and this one can be evaluated. -/
def keyed : State :=
  { State.reset with cipher := { p := Config.initP, s := Config.initS }, keyValid := true, iv := zeroBlock }

/-- The same with an IV set. -/
def withIv : State := { keyed with iv := countingIv, ivSet := true }

/-- The host has placed an input. -/
def putInput (s : State) (data : List Byte) : State :=
  { s with ibuf := s.ibuf.writeBytes 0 data, ilen := data.length }

/-- The host has placed a key. -/
def putKey (s : State) (key : List Byte) : State :=
  { s with kbuf := s.kbuf.writeBytes 0 key, klen := key.length }

/-- The entropy source will give this answer. -/
def putAnswer (s : State) (a : EntropyAnswer) : State := { s with entropy := [a] }

/-- The host is about to make this move. -/
def putMove (s : State) (m : HostMove) : State := { s with inbox := [m] }

theorem putInput_is (s : State) (data : List Byte) : InputIs (putInput s data) data :=
  ⟨rfl, fun i h => by simpa [putInput] using Memory.read_writeBytes_inside s.ibuf 0 data i h⟩

theorem putKey_is (s : State) (key : List Byte) : KeyIs (putKey s key) key :=
  ⟨rfl, fun i h => by simpa [putKey] using Memory.read_writeBytes_inside s.kbuf 0 key i h⟩

/-- A keyed engine of a platform with this `MAXLEN` and this `ILEN`, a PAD about to be issued. -/
def bounded (maxLen ilen : Nat) : State :=
  { putMove keyed (.writeCmd 0x05) with ilen := ilen, params := { Params.default with maxLen := some maxLen } }

theorem bounded_presentable {m n : Nat} (h : n ≤ m) : Presentable (bounded m n) := by
  intro k hk
  cases hk
  exact h

/-- What a test looks at of a command's outcome: `STATUS` and `OBUF[0..OLEN)`. -/
def seen : Host.Outcome State Fault Refusal → Option (Byte × List Byte)
  | .next t => some (t.status, t.result)
  | .fault _ => none
  | .refused _ => none

/-- The state after a command. -/
def after (s : State) : Host.Outcome State Fault Refusal → State
  | .next t => t
  | .fault _ => s
  | .refused _ => s

/-! ### Well-formedness: each check refuses an ill-formed term -/

theorem test_wf_zero_byte : commandByteLegal 0x00#8 = false := by decide
theorem test_wf_byte_past_the_map : commandByteLegal 0x0C#8 = false := by decide
theorem test_wf_high_bit : commandByteLegal 0x81#8 = false := by decide
theorem test_wf_last_byte : commandByteLegal 0xFF#8 = false := by decide
theorem test_wf_commands : Instr.all.all (fun i => i.wf && commandByteLegal (encode i)) = true := by decide
theorem test_wf_entropy_on_pad :
    AsmLine.wf { instr := .pad, operand := [], entropy := some .fail } = false := by decide
theorem test_wf_entropy_on_enccbc :
    AsmLine.wf { instr := .enccbc, operand := [], entropy := some .fail } = true := by decide

/-! ### Decoding: each opcode of R82 written out bit by bit -/

theorem test_decode_loadkey : decode 0b00000001#8 = .ok .loadkey := by decide
theorem test_decode_setiv : decode 0b00000010#8 = .ok .setiv := by decide
theorem test_decode_encblk : decode 0b00000011#8 = .ok .encblk := by decide
theorem test_decode_decblk : decode 0b00000100#8 = .ok .decblk := by decide
theorem test_decode_pad : decode 0b00000101#8 = .ok .pad := by decide
theorem test_decode_padiv : decode 0b00000110#8 = .ok .padiv := by decide
theorem test_decode_unpad : decode 0b00000111#8 = .ok .unpad := by decide
theorem test_decode_encecb : decode 0b00001000#8 = .ok .encecb := by decide
theorem test_decode_dececb : decode 0b00001001#8 = .ok .dececb := by decide
theorem test_decode_enccbc : decode 0b00001010#8 = .ok .enccbc := by decide
theorem test_decode_deccbc : decode 0b00001011#8 = .ok .deccbc := by decide
/-- V51: 0x81 is not LOADKEY. -/
theorem test_decode_reserved : decode 0x81#8 = .error (.reserved 0x81#8) ∧
    decode 0x00#8 = .error (.reserved 0x00#8) := by decide
/-- No other length than one byte exists (R86). -/
theorem test_decode_table_word : decodeTableWord 8 0x0A = some .enccbc ∧ decodeTableWord 16 0x0A = none := by decide

/-! ### Byte order, the block core and the key schedule -/

/-- R57: the first byte of a half is its most significant. -/
theorem test_halves : leftHalf countingIv = 0x00010203#32 ∧ rightHalf countingIv = 0x04050607#32 := by decide
/-- V14, rows 1 to 5. -/
theorem test_round_function : roundF Config.initS 0x00000000#32 = 0x2FCFF51E#32 ∧
    roundF Config.initS 0x01020304#32 = 0x3CEDFF8C#32 ∧ roundF Config.initS 0xFFFFFFFF#32 = 0x452C2867#32 ∧
    roundF Config.initS 0x80000000#32 = 0x1D9CE8BC#32 ∧ roundF Config.initS 0x243F6A88#32 = 0xDB2F9C4E#32 := by
  decide +kernel
/-- V15. -/
theorem test_encipher : encipher keyed.cipher (0, 0) = (0x706D9FCC#32, 0x1792D23A#32) := by decide +kernel
/-- V15, the other way. -/
theorem test_decipher : decipher keyed.cipher (0x706D9FCC#32, 0x1792D23A#32) = (0, 0) := by decide +kernel
/-- V1: the first two results of step 3 under a key of zeros (V2: of any length), which leaves the constants as they are
in step 2. -/
theorem test_schedule_first_calls :
    ([0, 2].foldl fillRoundKeys { cipher := keyed.cipher, running := (0, 0) }).running =
      (0x2DB9D714#32, 0x966E1439#32) := by decide +kernel
/-- V10: the key cursor runs on from word to word. -/
theorem test_key_cursor : (mixKey Config.initP [0x01, 0x02, 0x03])[0] = 0x253D6989#32 ∧
    (mixKey Config.initP [0x01, 0x02, 0x03])[1] = 0x87A009D1#32 ∧
    (mixKey Config.initP [0x01, 0x02, 0x03])[2] = 0x1018882D#32 := by decide +kernel

/-! ### The commands, one step each -/

/-- V13: a key of 57 bytes. -/
theorem test_loadkey_too_long : seen (exec .loadkey (putKey State.reset (rep 0 57))) = some (0x01#8, []) := by
  decide +kernel
/-- V13: no key byte. -/
theorem test_loadkey_empty : seen (exec .loadkey (putKey keyed [])) = some (0x01#8, []) := by decide +kernel
/-- V50: keyed, eight bytes. -/
theorem test_setiv : (after keyed (exec .setiv (putInput keyed countingIv.toList))).iv = countingIv ∧
    (after keyed (exec .setiv (putInput keyed countingIv.toList))).ivSet = true := by decide +kernel
/-- V50: nine bytes. -/
theorem test_setiv_too_long : seen (exec .setiv (putInput keyed (rep 1 9))) = some (0x07#8, []) := by decide +kernel
/-- V15 through the command. -/
theorem test_encblk : seen (exec .encblk (putInput keyed zeroBlock.toList)) = some (0x00#8, firstCall.toList) := by
  decide +kernel
/-- V18: seven bytes. -/
theorem test_encblk_too_short : seen (exec .encblk (putInput keyed (rep 0 7))) = some (0x07#8, []) := by decide +kernel
/-- V15 through the command, the other way. -/
theorem test_decblk : seen (exec .decblk (putInput keyed firstCall.toList)) = some (0x00#8, zeroBlock.toList) := by
  decide +kernel
/-- V18, row 2: no key and a bad length report the missing key. -/
theorem test_decblk_no_key : seen (exec .decblk (putInput State.reset (rep 0 7))) = some (0x05#8, []) := by
  decide +kernel
/-- V20, row 2. -/
theorem test_pad : seen (exec .pad (putInput State.reset [0x41])) = some (0x00#8, 0x41 :: rep 0x8D 7) := by
  decide +kernel
/-- V20, row 7: aligned data gets a whole block. -/
theorem test_pad_aligned : seen (exec .pad (putInput State.reset [1, 2, 3, 4, 5, 6, 7, 8])) =
    some (0x00#8, [1, 2, 3, 4, 5, 6, 7, 8] ++ rep 0xC4 8) := by decide +kernel
/-- V21: past the slot stands what PAD gives. -/
theorem test_padiv : (after keyed (exec .padiv (putInput State.reset [0x41]))).result.drop 8 = 0x41 :: rep 0x8D 7 ∧
    (after keyed (exec .padiv (putInput State.reset [0x41]))).olen = 16 := by
  constructor <;> rfl
/-- V22, row 11: a run across a block boundary. -/
theorem test_unpad : seen (exec .unpad (putInput State.reset ([0xA5, 0xA5, 0xA5, 0xA5, 0x00] ++ rep 0x5A 11))) =
    some (0x00#8, [0xA5, 0xA5, 0xA5, 0xA5, 0x00]) := by decide +kernel
/-- V22, row 2, and V23. -/
theorem test_unpad_nothing_left : seen (exec .unpad (putInput State.reset (rep 0xCC 8))) = some (0x00#8, []) ∧
    seen (exec .unpad (putInput State.reset [])) = some (0x07#8, []) := by decide +kernel
/-- By hand from V15 and R161: the first of the two blocks of eight zero bytes. -/
theorem test_encecb : ((seen (exec .encecb (putInput keyed (rep 0 8)))).map fun x => (x.2.take 8, x.2.length)) =
    some (firstCall.toList, 16) := by decide +kernel
/-- By hand from V15 and R148: eight equal deciphered bytes are all padding. -/
theorem test_dececb : seen (exec .dececb (putInput keyed firstCall.toList)) = some (0x00#8, []) := by decide +kernel
/-- V36: nine bytes. -/
theorem test_dececb_bad_length : seen (exec .dececb (putInput keyed (rep 0 9))) = some (0x03#8, []) := by decide +kernel
/-- By hand from V15 and R177: data equal to the IV gives a zero block to encipher. -/
theorem test_enccbc : ((seen (exec .enccbc (putInput withIv countingIv.toList))).map fun x => x.2.take 16) =
    some (countingIv.toList ++ firstCall.toList) := by decide +kernel
/-- V44: the draw fails. -/
theorem test_enccbc_no_entropy : seen (exec .enccbc (putAnswer (putInput keyed [0x48]) .fail)) = some (0x04#8, []) := by
  decide +kernel
/-- By hand from V15 and R183: the un-chained block is the IV, of which `Unpad` drops the last byte. -/
theorem test_deccbc : seen (exec .deccbc (putInput keyed (countingIv.toList ++ firstCall.toList))) =
    some (0x00#8, [0, 1, 2, 3, 4, 5, 6]) := by decide +kernel
/-- V49: eight bytes are too few. -/
theorem test_deccbc_bad_length : seen (exec .deccbc (putInput keyed (rep 0 8))) = some (0x03#8, []) := by
  decide +kernel

/-! ### The step -/

/-- V53: the first command after reset, without a key. -/
theorem test_step_no_key : seen (step (State.reset.withFetchWord 8 0x08)) = some (0x05#8, []) := by decide +kernel
/-- V51. -/
theorem test_step_reserved : seen (step (State.reset.withFetchWord 8 0x0C)) = some (0x06#8, []) := by decide +kernel
/-- R88: the moves of an assembler line; the answer belongs to its own line. -/
theorem test_line_moves : lineMoves { instr := .pad, operand := [0x41], entropy := none } =
      [.sourceAnswers [], .writeIbuf 0 0x41, .writeIlen 1, .writeCmd 0x05] ∧
    lineMoves { instr := .enccbc, operand := [], entropy := some .fail } =
      [.sourceAnswers [.fail], .writeIlen 0, .writeCmd 0x0A] := by decide
/-- An answer of an earlier line that was not asked for is not given later (R88). -/
theorem test_source_answers :
    (after keyed (step (putMove (putAnswer keyed .fail) (.sourceAnswers [.bytes zeroBlock])))).entropy =
      [.bytes zeroBlock] := by decide +kernel
/-- R12, R55, D24: what cannot be presented to the engine. The result of PAD on 8 bytes has 16, and `OBUF` has
8 + 16. -/
theorem test_host_refusal : hostRefusal 18 none .pad 1 = some .unsupportedRounds ∧
    hostRefusal 16 (some 8) .pad 9 = some .beyondCapacity ∧ hostRefusal 16 (some 8) .pad 8 = none ∧
    hostRefusal 16 (some 8) .enccbc 8 = none := by decide
/-- R143, D12: `EMPTY_LAST` is a parameter of the engine. -/
theorem test_empty_last :
    seen (exec .pad (putInput { State.reset with params := { Params.default with emptyLast := 0xFF } } [])) =
      some (0x00#8, rep 0x33 8) := by decide +kernel
/-- R96: the mode command is issued after a LOADKEY that fails, too; R95: not so across the boundary. -/
theorem test_key_then_mode : seen (encryptEcbWithKey [] [] State.reset) = some (0x05#8, []) ∧
    seen (foreignDecrypt [] [] State.reset) = some (0x01#8, []) := by decide +kernel
/-- R94 and R93: upper-case digits, two a byte; an odd length is refused first. -/
theorem test_hex : hexEncode [0x0A, 0xF5] = ['0', 'A', 'F', '5'] ∧
    hexDecode ['0', 'A', 'F', '5'] = .ok [0x0A, 0xF5] ∧ hexDecode ['x'] = .error .oddLength := by decide

/-! ### Witnesses: the step and the host's moves -/

theorem witness_StepRunsTheDecodedCommand : (putMove keyed (.writeCmd 0x0B)).inbox = .writeCmd 0x0B :: [] ∧
    decode 0x0B#8 = .ok .deccbc ∧ Instr.wf .deccbc = true ∧ Presentable (putMove keyed (.writeCmd 0x0B)) ∧
    Presentable (bounded 8 8) := ⟨rfl, by decide, rfl, nofun, bounded_presentable (by decide)⟩

theorem witness_DecodeAndEncodeAgree : Instr.wf .loadkey = true ∧ decode 0x0B#8 = .ok .deccbc ∧
    ∀ i : Instr, (0x0C#8 ≠ encode i ∧ 0x00#8 ≠ encode i ∧ 0xFF#8 ≠ encode i) :=
  ⟨rfl, by decide, fun i => by cases i <;> decide⟩

theorem witness_ReservedByteRaisesIllegalCommand :
    (∀ c, (putMove keyed (.writeCmd c)).inbox = .writeCmd c :: []) ∧
    ((0x00#8).toNat = 0 ∨ 12 ≤ (0x00#8).toNat) ∧ ((0x0C#8).toNat = 0 ∨ 12 ≤ (0x0C#8).toNat) ∧
    ((0xFF#8).toNat = 0 ∨ 12 ≤ (0xFF#8).toNat) := ⟨fun _ => rfl, by decide, by decide, by decide⟩

/-- A length the platform can just hold, and the first it cannot. -/
theorem witness_EveryStepAnswersANextState : (bounded 8 9).params.maxLen = some 8 ∧ 8 < (bounded 8 9).ilen ∧
    (bounded 8 9).inbox = .writeCmd (encode .pad) :: [] ∧
    ¬∃ m, (bounded 8 8).params.maxLen = some m ∧ m < (bounded 8 8).ilen :=
  ⟨rfl, by decide, rfl, by rintro ⟨m, hm, h⟩; cases hm; exact absurd h (by decide)⟩

theorem witness_NoHostMoveNoChange : State.reset.inbox = [] := rfl

theorem witness_HostWritesReachTheirTarget :
    (putMove keyed (.writeKbuf 55 0x41)).inbox = .writeKbuf 55 0x41 :: [] ∧
    (putMove keyed (.writeIbuf 0 0x41)).inbox = .writeIbuf 0 0x41 :: [] ∧
    (putMove keyed (.writeKlen 57)).inbox = .writeKlen 57 :: [] ∧
    (putMove keyed (.writeIlen 0)).inbox = .writeIlen 0 :: [] ∧
    (putMove keyed (.sourceAnswers [])).inbox = .sourceAnswers [] :: [] := ⟨rfl, rfl, rfl, rfl, rfl⟩

theorem witness_ResetLineGivesResetValues : (putMove withIv .reset).inbox = .reset :: [] := rfl

/-! ### Witnesses: invariants and the life of the state -/

/-- A step that enciphers, from a state that meets the invariant. -/
theorem witness_StepKeepsTheInvariant : Inv (putMove (putInput keyed [0x41]) (.writeCmd 0x08)) ∧
    ∃ t, step (putMove (putInput keyed [0x41]) (.writeCmd 0x08)) = .next t ∧ t.olen = 8 := by
  refine ⟨⟨List.Pairwise.nil, ?_, List.Pairwise.nil, rfl, rfl, rfl, fun _ => rfl, by decide, fun h => absurd rfl h,
    fun a => ?_⟩, _, rfl, rfl⟩
  · exact Memory.writeBytes_wf 0 [0x41] List.Pairwise.nil
  · show (none : Option Byte).isSome = true ↔ a < 0
    simp

theorem witness_ScheduleChangesOnlyInLoadkey : ∃ t, step (putMove withIv (.writeCmd 0x0A)) = .next t ∧
    (∀ rest, (putMove withIv (.writeCmd 0x0A)).inbox ≠ .reset :: rest) ∧
    ¬((∃ rest, (putMove withIv (.writeCmd 0x0A)).inbox = .writeCmd 0x01#8 :: rest) ∧ t.status = 0x00#8) := by
  refine ⟨_, rfl, fun rest h => ?_, fun h => ?_⟩
  · simp [putMove] at h
  · obtain ⟨⟨rest, h⟩, -⟩ := h
    simp [putMove] at h

theorem witness_KeyValidTellsThatALoadkeySucceeded :
    ∃ t, step (putMove (putKey State.reset [0x41]) (.writeCmd 0x01)) = .next t ∧ t.status = 0x00#8 := ⟨_, rfl, rfl⟩

theorem witness_IvSetHasTheLifeOfTheSpec : ∃ t, step (putMove (putInput keyed countingIv.toList) (.writeCmd 0x02)) =
    .next t ∧ t.status = 0x00#8 := ⟨_, rfl, rfl⟩

theorem witness_IvChangesOnlyInItsWriters : ∃ t,
    step (putMove (putInput keyed countingIv.toList) (.writeCmd 0x02)) = .next t ∧
    t.iv ≠ (putMove (putInput keyed countingIv.toList) (.writeCmd 0x02)).iv :=
  ⟨after keyed (step (putMove (putInput keyed countingIv.toList) (.writeCmd 0x02))), rfl, by decide +kernel⟩

/-! ### Witnesses: errors and frames -/

theorem witness_AnErrorChangesOnlyStatusAndOutput : ∃ t, exec .encecb State.reset = .next t ∧ t.status ≠ 0x00#8 :=
  ⟨_, rfl, by decide⟩

/-- One state for each clause: a reserved byte, a missing key, each of the four length errors at a boundary length, each
answer of the entropy source, and no check failing. -/
theorem witness_ChecksAreMadeInOrder :
    (∀ i, 0x0C#8 ≠ encode i) ∧
    (needsKey .deccbc = true ∧ (putInput State.reset (rep 0 5)).keyValid = false) ∧
    (needsKey .loadkey = false ∧ acceptsLengths .loadkey (putKey State.reset (rep 0 57)) = false ∧
      acceptsLengths .loadkey (putKey State.reset []) = false) ∧
    (acceptsLengths .encblk (putInput keyed (rep 0 7)) = false ∧
      acceptsLengths .setiv (putInput keyed (rep 0 9)) = false ∧ acceptsLengths .unpad (putInput keyed []) = false ∧
      acceptsLengths .dececb (putInput keyed []) = false ∧ acceptsLengths .deccbc (putInput keyed (rep 0 8)) = false) ∧
    (acceptsLengths .enccbc keyed = true ∧ keyed.keyValid = true ∧ keyed.ivSet = false ∧
      drawnBytes (putAnswer keyed .fail).entropyAnswer = none ∧
      drawnBytes (putAnswer keyed (.short 7)).entropyAnswer = none ∧
      drawnBytes (putAnswer keyed (.bytes countingIv)).entropyAnswer ≠ none) ∧
    (acceptsLengths .deccbc (putInput keyed (rep 0 16)) = true ∧
      acceptsLengths .loadkey (putKey keyed (rep 0 56)) = true ∧ withIv.ivSet = true) ∧
    Presentable keyed ∧ Presentable (bounded 8 8) := by
  refine ⟨fun i => by cases i <;> decide, ⟨rfl, rfl⟩, ⟨rfl, ?_, ?_⟩, ⟨?_, ?_, ?_, ?_, ?_⟩, ⟨rfl, rfl, rfl, rfl, rfl, ?_⟩,
    ⟨?_, ?_, rfl⟩, nofun, bounded_presentable (by decide)⟩ <;> decide

theorem witness_CommandsKeepTheHostsInputs : ∃ t, exec .enccbc (putInput withIv [0x41]) = .next t := ⟨_, rfl⟩

theorem witness_OnlyLoadkeyReadsTheKeyBuffer : Instr.encecb ≠ .loadkey ∧
    ∃ t, exec .encecb (putInput keyed [0x41]) = .next t ∧ t.status = 0x00#8 := ⟨by decide, _, rfl, rfl⟩

theorem witness_LoadkeyReadsOnlyTheKey :
    ∃ t, exec .loadkey (putKey State.reset [0x41]) = .next t ∧ t.status = 0x00#8 := ⟨_, rfl, rfl⟩

theorem witness_PaddingCommandsReadNoEngineState : ∃ t, exec .unpad (putInput State.reset [0x41]) = .next t ∧
    t.status = 0x00#8 := ⟨_, rfl, rfl⟩

/-! ### Witnesses: the block commands and the key schedule -/

theorem witness_EncblkEnciphersOneBlock : keyed.keyValid = true ∧
    InputIs (putInput keyed zeroBlock.toList) zeroBlock.toList := ⟨rfl, putInput_is _ _⟩

theorem witness_DecblkDeciphersOneBlock : keyed.keyValid = true ∧
    InputIs (putInput keyed firstCall.toList) firstCall.toList := ⟨rfl, putInput_is _ _⟩

/-- The shortest and the longest key (R101). -/
theorem witness_LoadkeyInstallsTheSchedule :
    (KeyIs (putKey State.reset [0x41]) [0x41] ∧ 1 ≤ [0x41].length ∧ [0x41].length ≤ 56) ∧
    (KeyIs (putKey keyed (rep 0x41 56)) (rep 0x41 56) ∧ 1 ≤ (rep 0x41 56).length ∧ (rep 0x41 56).length ≤ 56) :=
  ⟨⟨putKey_is _ _, by decide, by decide⟩, putKey_is _ _, by decide, by decide⟩

theorem witness_LoadkeyAcceptsOneToFiftySixBytes :
    ((putKey keyed []).klen = 0 ∨ 56 < (putKey keyed []).klen) ∧
    ((putKey keyed (rep 0 57)).klen = 0 ∨ 56 < (putKey keyed (rep 0 57)).klen) ∧
    (1 ≤ (putKey keyed (rep 0 1)).klen ∧ (putKey keyed (rep 0 1)).klen ≤ 56) ∧
    (1 ≤ (putKey keyed (rep 0 56)).klen ∧ (putKey keyed (rep 0 56)).klen ≤ 56) := by decide

theorem witness_KeyIsMixedBigEndianAndCycled : 0 < [0x01, 0x02, 0x03].length ∧ 0 < 18 ∧ 17 < 18 := by decide

/-- V2: `4142` and `41424142`. -/
theorem witness_KeysWithOneCycleAreEquivalent : ∀ j, j < 72 →
    [0x41#8, 0x42#8][j % 2]'(Nat.mod_lt _ (by decide)) =
      [0x41#8, 0x42#8, 0x41#8, 0x42#8][j % 4]'(Nat.mod_lt _ (by decide)) := by decide

/-- Encipherments on both sides of each boundary: the last of step 3, the first of S0, the last of S0, the first of S1,
the last of all. -/
theorem witness_ScheduleIsAChainOfEncipherments :
    8 < 521 ∧ (8 < 9 ∧ 16 = 2 * 8) ∧ (9 ≤ 9 ∧ 0 = (9 - 9) / 128 ∧ 0 = 2 * ((9 - 9) % 128)) ∧
    (0 = (136 - 9) / 128 ∧ 254 = 2 * ((136 - 9) % 128)) ∧ (1 = (137 - 9) / 128 ∧ 0 = 2 * ((137 - 9) % 128)) ∧
    (520 < 521 ∧ 3 = (520 - 9) / 128 ∧ 255 = 2 * ((520 - 9) % 128) + 1) := by decide

/-! ### Witnesses: the padding codec -/

/-- The last data byte, the first padding byte, and the padding of empty data. -/
theorem witness_PaddingBytesAreLastByteXorCC :
    (6 < (padBody 0 (rep 0x41 7)).length ∧ 6 < (rep 0x41 7).length) ∧
    (7 < (padBody 0 (rep 0x41 7)).length ∧ (rep 0x41 7).length ≤ 7 ∧ 0 < (rep 0x41 7).length) ∧
    (8 < (padBody 0 (rep 0x41 8)).length ∧ (rep 0x41 8).length ≤ 8) ∧ 7 < (padBody 0 []).length := by decide

theorem witness_PaddingReachesTheNextMultipleOfEight : 8 % 8 = 0 ∧ (rep 0x41 7).length < 8 ∧
    16 % 8 = 0 ∧ (rep 0x41 8).length < 16 := by decide

theorem witness_UnpadFindsTheTrailingRun : 0 < [0x41#8].length ∧ 0 < [0x41#8, 0x8D#8, 0x8D#8].length ∧
    unpad [0x41#8, 0x8D#8, 0x8D#8] ≤ 1 ∧ 0 + 1 = unpad [0x41#8, 0x8D#8, 0x8D#8] := by decide

/-- Data that is not empty, and a slot of either kind for empty data. -/
theorem witness_UnpadUndoesPadWithSlot : 0 < [0x41#8].length ∧ zeroBlock[7] ≠ 0x00#8 ^^^ 0xCC#8 ∧
    ¬(Vector.replicate 8 0xCC#8 : Block)[7] ≠ 0x00#8 ^^^ 0xCC#8 := by decide

theorem witness_PadDeliversThePaddedInput : InputIs (putInput State.reset []) [] ∧
    InputIs (putInput State.reset (rep 0x41 8)) (rep 0x41 8) := ⟨putInput_is _ _, putInput_is _ _⟩

theorem witness_PadivDeliversASlotAndThePaddedInput : InputIs (putInput State.reset []) [] ∧
    InputIs (putInput keyed (rep 0x41 9)) (rep 0x41 9) := ⟨putInput_is _ _, putInput_is _ _⟩

theorem witness_UnpadDeliversTheCutInput : InputIs (putInput State.reset [0x41]) [0x41] ∧ 0 < [0x41#8].length :=
  ⟨putInput_is _ _, by decide⟩

/-! ### Witnesses: ECB -/

theorem witness_EncecbEnciphersEveryBlock : keyed.keyValid = true ∧ InputIs (putInput keyed []) [] ∧
    InputIs (putInput keyed (rep 0x41 8)) (rep 0x41 8) := ⟨rfl, putInput_is _ _, putInput_is _ _⟩

theorem witness_DececbDeciphersAndUnpads : keyed.keyValid = true ∧ InputIs (putInput keyed (rep 0x41 8)) (rep 0x41 8) ∧
    (rep 0x41 8).length % 8 = 0 ∧ 0 < (rep 0x41 8).length := ⟨rfl, putInput_is _ _, by decide, by decide⟩

theorem witness_DececbAcceptsPositiveMultiplesOfEight : keyed.keyValid = true ∧
    ((putInput keyed []).ilen = 0 ∨ (putInput keyed []).ilen % 8 ≠ 0) ∧
    ((putInput keyed (rep 0 7)).ilen = 0 ∨ (putInput keyed (rep 0 7)).ilen % 8 ≠ 0) ∧
    ((putInput keyed (rep 0 9)).ilen = 0 ∨ (putInput keyed (rep 0 9)).ilen % 8 ≠ 0) ∧
    ((putInput keyed (rep 0 8)).ilen ≠ 0 ∧ (putInput keyed (rep 0 8)).ilen % 8 = 0) := by
  refine ⟨rfl, ?_, ?_, ?_, ?_⟩ <;> decide

/-- The whole chain of the round trip: each command's hypotheses hold of the state the host makes after the one
before. -/
theorem witness_EcbRoundTripReturnsTheData :
    KeyIs (putKey State.reset [0x41]) [0x41] ∧ 1 ≤ [0x41#8].length ∧ [0x41#8].length ≤ 56 ∧
    ∃ s1, exec .loadkey (putKey State.reset [0x41]) = .next s1 ∧ s1.status = 0x00#8 ∧
      KeepsInstance s1 (putInput s1 [0x42]) ∧ InputIs (putInput s1 [0x42]) [0x42] ∧
      ∃ s3, exec .encecb (putInput s1 [0x42]) = .next s3 ∧ s3.status = 0x00#8 ∧
        KeepsInstance s3 (putInput s3 s3.result) ∧ InputIs (putInput s3 s3.result) s3.result :=
  ⟨putKey_is _ _, by decide, by decide, _, rfl, rfl, ⟨rfl, rfl, rfl, rfl⟩, putInput_is _ _, _, rfl, rfl,
    ⟨rfl, rfl, rfl, rfl⟩, putInput_is _ _⟩

/-- Two equal blocks. -/
theorem witness_EcbIsDeterministicBlockByBlock : keyed.keyValid = true ∧ keyed.cipher = withIv.cipher ∧
    keyed.params.emptyLast = withIv.params.emptyLast ∧
    InputIs (putInput keyed (rep 0x41 16)) (rep 0x41 16) ∧ InputIs (putInput withIv (rep 0x41 16)) (rep 0x41 16) ∧
    0 < (rep 0x41 16).length / 8 ∧ 1 < (rep 0x41 16).length / 8 ∧
    blockAt (rep 0x41 16) 0 = blockAt (rep 0x41 16) 1 :=
  ⟨rfl, rfl, rfl, putInput_is _ _, putInput_is _ _, by decide, by decide, by decide⟩

/-! ### Witnesses: CBC and the IV slot -/

theorem witness_SetivStoresTheIv : keyed.keyValid = true ∧
    InputIs (putInput keyed countingIv.toList) countingIv.toList ∧
    InputIs (putInput withIv zeroBlock.toList) zeroBlock.toList := ⟨rfl, putInput_is _ _, putInput_is _ _⟩

theorem witness_EnccbcChainsFromTheSetIv : withIv.keyValid = true ∧ withIv.ivSet = true ∧
    InputIs (putInput withIv []) [] ∧ InputIs (putInput withIv (rep 0x41 8)) (rep 0x41 8) :=
  ⟨rfl, rfl, putInput_is _ _, putInput_is _ _⟩

theorem witness_EnccbcChainsFromTheDrawnIv : keyed.keyValid = true ∧ keyed.ivSet = false ∧
    drawnBytes (putInput (putAnswer keyed (.bytes countingIv)) [0x41]).entropyAnswer = some countingIv ∧
    InputIs (putInput (putAnswer keyed (.bytes countingIv)) [0x41]) [0x41] := ⟨rfl, rfl, rfl, putInput_is _ _⟩

theorem witness_EnccbcFailsWithoutEntropy : keyed.keyValid = true ∧ keyed.ivSet = false ∧
    (putAnswer keyed .fail).entropyAnswer = .fail ∧ (∃ n, (putAnswer keyed (.short 0)).entropyAnswer = .short n) ∧
    ∃ n, (putAnswer keyed (.short 7)).entropyAnswer = .short n := ⟨rfl, rfl, rfl, ⟨0, rfl⟩, 7, rfl⟩

/-- Equal draws, different draws, and a set IV. -/
theorem witness_EnccbcResultFollowsTheDraw : keyed.keyValid = true ∧ keyed.ivSet = false ∧
    InputIs (putInput (putAnswer keyed (.bytes countingIv)) [0x41]) [0x41] ∧
    InputIs (putInput (putAnswer keyed (.bytes zeroBlock)) [0x41]) [0x41] ∧
    drawnBytes (putInput (putAnswer keyed (.bytes countingIv)) [0x41]).entropyAnswer = some countingIv ∧
    drawnBytes (putInput (putAnswer keyed (.bytes zeroBlock)) [0x41]).entropyAnswer = some zeroBlock ∧
    countingIv = countingIv ∧ countingIv ≠ zeroBlock ∧
    withIv.keyValid = true ∧ withIv.ivSet = true ∧ InputIs (putInput withIv [0x41]) [0x41] ∧
    keyed.params.emptyLast = withIv.params.emptyLast :=
  ⟨rfl, rfl, putInput_is _ _, putInput_is _ _, rfl, rfl, rfl, by decide, rfl, rfl, putInput_is _ _, rfl⟩

/-- A SETIV that succeeds; an engine of the same instance with data; and one whose host has placed a key. -/
theorem witness_ASetIvServesOneEnccbc : ∃ t, exec .setiv (putInput keyed countingIv.toList) = .next t ∧
    t.status = 0x00#8 ∧ KeepsInstance t (putInput t [0x41]) ∧ KeepsInstance t (putKey t [0x41]) ∧
    ∃ v, exec .loadkey (putKey t [0x41]) = .next v ∧ v.status = 0x00#8 :=
  ⟨_, rfl, rfl, ⟨rfl, rfl, rfl, rfl⟩, ⟨rfl, rfl, rfl, rfl⟩, _, rfl, rfl⟩

theorem witness_DeccbcUnchainsAndUnpads : keyed.keyValid = true ∧
    InputIs (putInput keyed (rep 0x41 16)) (rep 0x41 16) ∧ (rep 0x41 16).length % 8 = 0 ∧ 16 ≤ (rep 0x41 16).length ∧
    InputIs (putInput keyed (rep 0x41 24)) (rep 0x41 24) ∧ (rep 0x41 24).length % 8 = 0 ∧ 16 ≤ (rep 0x41 24).length :=
  ⟨rfl, putInput_is _ _, by decide, by decide, putInput_is _ _, by decide, by decide⟩

theorem witness_DeccbcAcceptsMultiplesOfEightFromSixteen : keyed.keyValid = true ∧
    ((putInput keyed (rep 0 8)).ilen % 8 ≠ 0 ∨ (putInput keyed (rep 0 8)).ilen < 16) ∧
    ((putInput keyed (rep 0 15)).ilen % 8 ≠ 0 ∨ (putInput keyed (rep 0 15)).ilen < 16) ∧
    ((putInput keyed (rep 0 17)).ilen % 8 ≠ 0 ∨ (putInput keyed (rep 0 17)).ilen < 16) ∧
    ((putInput keyed (rep 0 16)).ilen % 8 = 0 ∧ 16 ≤ (putInput keyed (rep 0 16)).ilen) := by
  refine ⟨rfl, ?_, ?_, ?_, ?_⟩ <;> decide

/-- The whole chain with a drawn IV; the other case of the hypothesis is `withIv`. -/
theorem witness_CbcRoundTripReturnsTheData :
    KeyIs (putKey State.reset [0x41]) [0x41] ∧ 1 ≤ [0x41#8].length ∧ [0x41#8].length ≤ 56 ∧ withIv.ivSet = true ∧
    ∃ s1, exec .loadkey (putKey State.reset [0x41]) = .next s1 ∧ s1.status = 0x00#8 ∧
      (putAnswer (putInput s1 []) (.bytes countingIv)).cipher = s1.cipher ∧
      (putAnswer (putInput s1 []) (.bytes countingIv)).keyValid = s1.keyValid ∧
      InputIs (putAnswer (putInput s1 []) (.bytes countingIv)) [] ∧
      drawnBytes (putAnswer (putInput s1 []) (.bytes countingIv)).entropyAnswer ≠ none ∧
      ∃ s3, exec .enccbc (putAnswer (putInput s1 []) (.bytes countingIv)) = .next s3 ∧ s3.status = 0x00#8 ∧
        KeepsInstance s3 (putInput s3 s3.result) ∧ InputIs (putInput s3 s3.result) s3.result :=
  ⟨putKey_is _ _, by decide, by decide, rfl, _, rfl, rfl, rfl, rfl, ⟨rfl, fun _ h => absurd h (Nat.not_lt_zero _)⟩,
    by simp [drawnBytes, putAnswer, State.entropyAnswer], _, rfl, rfl, ⟨rfl, rfl, rfl, rfl⟩, putInput_is _ _⟩

/-- Three zero blocks with one byte altered: no other block changes. -/
theorem blockAt_altered (n k : Nat) (h : k ≠ n / 8) : blockAt (rep 0 24) k = blockAt ((rep 0 24).set n 1) k := by
  apply Vector.ext
  intro i hi
  have : n ≠ 8 * k + i := by omega
  simp [this]

/-- Three blocks, altered in the IV block, in the block after it and in the last. -/
theorem witness_CbcErrorsPropagateToTwoBlocks :
    keyed.keyValid = true ∧ InputIs (putInput keyed (rep 0 24)) (rep 0 24) ∧ (rep 0 24).length % 8 = 0 ∧
    16 ≤ (rep 0 24).length ∧
    ∀ n, (n = 0 ∨ n = 8 ∨ n = 23) → InputIs (putInput keyed ((rep 0 24).set n 1)) ((rep 0 24).set n 1) ∧
      (rep 0 24).length = ((rep 0 24).set n 1).length ∧ n / 8 < (rep 0 24).length / 8 ∧
      blockAt (rep 0 24) (n / 8) ≠ blockAt ((rep 0 24).set n 1) (n / 8) ∧
      ∀ k, k ≠ n / 8 → blockAt (rep 0 24) k = blockAt ((rep 0 24).set n 1) k := by
  refine ⟨rfl, putInput_is _ _, by decide, by decide, fun n h => ⟨putInput_is _ _, by simp, ?_, ?_, blockAt_altered n⟩⟩ <;>
  · rcases h with rfl | rfl | rfl <;> decide

/-- Lengths on both sides of each bound, on an unbounded platform and on one that just holds the ciphertext. -/
theorem witness_ForeignDecryptLoadsTheKeyAndDecrypts :
    (∀ m, State.reset.params.maxLen = some m → State.reset.ilen ≤ m ∧ (rep 0 16).length ≤ m) ∧
    (∀ m, (bounded 16 0).params.maxLen = some m → (bounded 16 0).ilen ≤ m ∧ (rep 0 16).length ≤ m) ∧ (rep 0 0).length = 0 ∧ 56 < (rep 0 57).length ∧
    (1 ≤ (rep 0 1).length ∧ (rep 0 56).length ≤ 56) ∧ (rep 0 15).length % 8 ≠ 0 ∧ (rep 0 8).length < 16 ∧
    ((rep 0 16).length % 8 = 0 ∧ 16 ≤ (rep 0 16).length) :=
  ⟨nofun, fun m h => by cases h; exact ⟨by decide, by decide⟩, by decide⟩

end Sys2Proof.Tests
end

section
/-! The statements of spec/00_scope.md: the byte order of a block (R14, with R57) and the reset state (R231, with R11).
Splitting a block into halves and writing the halves back are inverse, because `be32` and taking a word's four lanes
are. -/

namespace Sys2Proof.Machine

/-- The left half of a block as a number (R14, R57). -/
theorem leftHalf_toNat (b : Block) :
    (leftHalf b).toNat = b[0].toNat * 2 ^ 24 + b[1].toNat * 2 ^ 16 + b[2].toNat * 2 ^ 8 + b[3].toNat :=
  be32_toNat _ _ _ _

/-- The right half of a block as a number (R14, R57). -/
theorem rightHalf_toNat (b : Block) :
    (rightHalf b).toNat = b[4].toNat * 2 ^ 24 + b[5].toNat * 2 ^ 16 + b[6].toNat * 2 ^ 8 + b[7].toNat :=
  be32_toNat _ _ _ _

/-- Bytes 0 to 3 of a block written from two words are the lanes of the first word. -/
@[simp] theorem leftHalf_blockOfHalves (l r : Word) : leftHalf (blockOfHalves l r) = l :=
  be32_lanes l

/-- Bytes 4 to 7 of a block written from two words are the lanes of the second word. -/
@[simp] theorem rightHalf_blockOfHalves (l r : Word) : rightHalf (blockOfHalves l r) = r :=
  be32_lanes r

/-- A block is the one written from its halves: each byte is a lane of the half it lies in. -/
@[simp] theorem blockOfHalves_halves (b : Block) : blockOfHalves (leftHalf b) (rightHalf b) = b := by
  obtain ⟨left0, left1, left2, left3⟩ := lanes_be32 b[0] b[1] b[2] b[3]
  obtain ⟨right0, right1, right2, right3⟩ := lanes_be32 b[4] b[5] b[6] b[7]
  apply Vector.ext
  intro i hi
  match i with
  | 0 => exact left0
  | 1 => exact left1
  | 2 => exact left2
  | 3 => exact left3
  | 4 => exact right0
  | 5 => exact right1
  | 6 => exact right2
  | 7 => exact right3

/-- Settles O28: the values of the halves, and the two round trips between a block and its halves. -/
theorem blocksAreBigEndianHalves : Obligations.BlocksAreBigEndianHalves :=
  ⟨fun b => ⟨leftHalf_toNat b, rightHalf_toNat b, blockOfHalves_halves b⟩,
    fun l r => ⟨leftHalf_blockOfHalves l r, rightHalf_blockOfHalves l r⟩⟩

/-- Settles O8: the registers and parameters are those `State.resetAt` writes, and its buffers are blank. -/
theorem resetStateHasItsValues : Obligations.ResetStateHasItsValues :=
  ⟨rfl, rfl, rfl, rfl, rfl, rfl, rfl,
    fun a => ⟨Memory.get?_blank .kbuf 0 a, Memory.get?_blank .ibuf 0 a, Memory.get?_blank .obuf 0 a⟩⟩

end Sys2Proof.Machine
end

section
/-! How a step goes, move by move (spec/10_state.md R33 to R38, spec/30_encoding.md R82, R87): the command byte and its
command determine each other, one equation for each kind of host move, and the statements that need no more. -/

namespace Sys2Proof.Machine

/-! ### Command bytes -/

@[simp] theorem decode_encode (i : Instr) : decode (encode i) = .ok i := by
  cases i <;> rfl

/-- Only a command's own byte decodes to it (R87). -/
theorem eq_encode_of_decode {c : Byte} {i : Instr} (h : decode c = .ok i) : c = encode i := by
  unfold decode at h
  split at h <;> cases h <;> exact BitVec.eq_of_toNat_eq ‹_›

/-- Two commands have the same byte only when they are the same command. -/
theorem encode_inj {i j : Instr} : encode i = encode j ↔ i = j := by
  refine ⟨fun h => ?_, congrArg encode⟩
  have decoded : (.ok i : Except DecodeError Instr) = .ok j := by rw [← decode_encode i, h, decode_encode]
  exact Except.ok.inj decoded

/-! ### One equation for each kind of move -/

/-- The host's next move taken from the inbox. -/
theorem State.dropMove_of_inbox {s : State} {m : HostMove} {rest : List HostMove} (h : s.inbox = m :: rest) :
    s.dropMove = { s with inbox := rest } := by
  simp [State.dropMove, h]

theorem step_of_no_move {s : State} (h : s.inbox = []) : step s = .next s := by
  simp [step, h]

theorem step_of_writeCmd {s : State} {c : Byte} {rest : List HostMove} (h : s.inbox = .writeCmd c :: rest) :
    step s = runCommand c { s with inbox := rest } := by
  simp [step, h, State.dropMove_of_inbox h]

theorem step_of_host_move {s : State} {m : HostMove} {rest : List HostMove} (h : s.inbox = m :: rest)
    (notCommand : ∀ c, m ≠ .writeCmd c) : step s = .next (hostMoved m { s with inbox := rest }) := by
  cases m with
  | writeCmd c => exact absurd rfl (notCommand c)
  | _ => simp [step, h, State.dropMove_of_inbox h]

/-! ### The statements -/

/-- Settles O3: a presentable command is not refused, so running its byte is `exec` of what the byte decodes to. -/
theorem stepRunsTheDecodedCommand : Obligations.StepRunsTheDecodedCommand := by
  intro s c rest i move decoded _ presentable
  have presentableNext : Presentable { s with inbox := rest } := presentable
  rw [step_of_writeCmd move, runCommand_eq presentableNext, decoded]

/-- Settles O5. -/
theorem noHostMoveNoChange : Obligations.NoHostMoveNoChange :=
  fun _ => step_of_no_move

/-- Settles O6: a write to a buffer reads back at its own offset and leaves the others; the other moves set one field. -/
theorem hostWritesReachTheirTarget : Obligations.HostWritesReachTheirTarget := by
  intro s rest off n v answers
  refine ⟨fun move => ⟨s.kbuf.write off v, step_of_host_move move nofun, ?_⟩,
    fun move => ⟨s.ibuf.write off v, step_of_host_move move nofun, ?_⟩,
    fun move => step_of_host_move move nofun, fun move => step_of_host_move move nofun,
    fun move => step_of_host_move move nofun⟩
  · exact ⟨Memory.read_write_same _ _ _, fun _ other => Memory.read_write_other _ _ other⟩
  · exact ⟨Memory.read_write_same _ _ _, fun _ other => Memory.read_write_other _ _ other⟩

/-- Settles O7: the move is the reset line, whose registers are reset and whose buffers are blank. -/
theorem resetLineGivesResetValues : Obligations.ResetLineGivesResetValues := by
  intro s rest move
  refine ⟨State.resetLine { s with inbox := rest }, step_of_host_move move nofun, ?_⟩
  simp

end Sys2Proof.Machine
end

section
/-! What a command leaves of the host's inputs and how it ends (spec/10_state.md R35, spec/20_memory.md R51 to R53,
spec/60_exceptions.md R195): every command works on a state with the same inputs, and ends by raising an error or by
completing. -/

namespace Sys2Proof.Machine

/-- The open parameters and what the host wrote are the same, the buffers as records (`KeepsInputs` compares their
reads). -/
structure SameInputs (s t : State) : Prop where
  params : t.params = s.params
  klen : t.klen = s.klen
  ilen : t.ilen = s.ilen
  kbuf : t.kbuf = s.kbuf
  ibuf : t.ibuf = s.ibuf
  inbox : t.inbox = s.inbox

theorem SameInputs.keepsInputs {s t : State} (h : SameInputs s t) : KeepsInputs s t :=
  ⟨h.klen, h.ilen, fun a => by rw [h.kbuf], fun a => by rw [h.ibuf], h.inbox, h.params⟩

/-- A command issued on `s` has ended in `t`: on a state with the same inputs it raised an error of the engine or
completed. -/
inductive CommandEnds (s t : State) : Prop
  | raised (s' : State) (e : EngineError) (same : SameInputs s s') (notHex : e ≠ .invalidHexInput)
      (ends : t = s'.raise e)
  | completed (s' : State) (out : List Byte) (same : SameInputs s s') (ends : t = s'.complete out)

/-- `InvalidHexInput` is no command's error (R198, R202). -/
theorem ne_invalidHexInput_of_possible {i : Instr} {e : EngineError} (h : e ∈ possibleErrors i) :
    e ≠ .invalidHexInput := by
  rintro rfl
  cases i <;> simp [possibleErrors] at h

theorem exec_ends {i : Instr} {s t : State} (h : exec i s = .next t) : CommandEnds s t := by
  rcases exec_next h with ⟨e, possible, s', ends, origin⟩ | ⟨s', out, ends, -, origin⟩
  · refine .raised s' e ?_ (ne_invalidHexInput_of_possible possible) ends
    rcases origin with rfl | ⟨-, rfl⟩ <;> constructor <;> rfl
  · refine .completed s' out ?_ ends
    rcases origin with ⟨rfl, -⟩ | ⟨-, -, c, rfl⟩ | ⟨-, b, rfl⟩ | ⟨-, ⟨-, rfl⟩ | ⟨b, -, rfl⟩⟩ <;>
    constructor <;> rfl

theorem runCommand_ends {c : Byte} {s t : State} (h : runCommand c s = .next t) : CommandEnds s t := by
  rcases runCommand_next h with ⟨-, -, rfl⟩ | ⟨i, -, run⟩
  · exact .raised s .illegalCommand ⟨rfl, rfl, rfl, rfl, rfl, rfl⟩ nofun rfl
  · exact exec_ends run

/-- Raising and completing leave the inputs alone. -/
theorem CommandEnds.sameInputs {s t : State} (h : CommandEnds s t) : SameInputs s t := by
  cases h with
  | raised s' e same _ ends =>
    subst ends
    exact ⟨same.params, same.klen, same.ilen, same.kbuf, same.ibuf, same.inbox⟩
  | completed s' out same ends =>
    subst ends
    exact ⟨same.params, same.klen, same.ilen, same.kbuf, same.ibuf, same.inbox⟩

/-- Settles O18. -/
theorem commandsKeepTheHostsInputs : Obligations.CommandsKeepTheHostsInputs :=
  fun _ _ _ run => (exec_ends run).sameInputs.keepsInputs

end Sys2Proof.Machine
end

section
/-! The life of the schedule, `KEYVALID`, the IV slot and `IVSET` (spec/10_state.md R20 to R32), the four pieces of state
that `KeepsInstance` names: what each command does to them, and from there what a step does. -/

namespace Sys2Proof.Machine

/-- The three commands that write to one of the four pieces when they succeed (R42). -/
def writesInstance : Instr → Bool
  | .loadkey | .setiv | .enccbc => true
  | .encblk | .decblk | .pad | .padiv | .unpad | .encecb | .dececb | .deccbc => false

/-- What the command `i`, issued on `s` and ended in `t`, has done to the four pieces: nothing, unless it is one of their
three writers and has succeeded. -/
inductive InstanceEffect (i : Instr) (s t : State) : Prop
  | kept (quiet : t.status = 0x00#8 → writesInstance i = false) (keeps : KeepsInstance s t)
  | loadkey (cmd : i = .loadkey) (ok : t.status = 0x00#8) (keyValid : t.keyValid = true) (ivSet : t.ivSet = false)
  | setiv (cmd : i = .setiv) (ok : t.status = 0x00#8) (hadKey : s.keyValid = true) (keyValid : t.keyValid = true)
      (cipher : t.cipher = s.cipher) (ivSet : t.ivSet = true)
  | enccbc (cmd : i = .enccbc) (ok : t.status = 0x00#8) (hadKey : s.keyValid = true) (keyValid : t.keyValid = true)
      (cipher : t.cipher = s.cipher) (ivSet : t.ivSet = false)

/-- An error is told from a success by its code (R37, R191). -/
theorem EngineError.code_ne_zero (e : EngineError) : e.code ≠ 0x00#8 := by
  cases e <;> decide

theorem exec_instanceEffect {i : Instr} {s t : State} (h : exec i s = .next t) : InstanceEffect i s t := by
  rcases exec_next h with ⟨e, -, s', rfl, origin⟩ | ⟨s', out, rfl, hadKey, origin⟩
  · refine .kept (fun ok => absurd ok e.code_ne_zero) ?_
    rcases origin with rfl | ⟨-, rfl⟩ <;> exact ⟨rfl, rfl, rfl, rfl⟩
  · rcases origin with ⟨rfl, notLoadkey, notSetiv, notEnccbc⟩ | ⟨rfl, -, c, rfl⟩ | ⟨rfl, b, rfl⟩ |
      ⟨rfl, ⟨-, rfl⟩ | ⟨b, -, rfl⟩⟩
    · refine .kept (fun _ => ?_) (State.complete_keeps s' out).1
      cases i <;> trivial
    · exact .loadkey rfl rfl rfl rfl
    · exact .setiv rfl rfl (hadKey rfl) (hadKey rfl) rfl rfl
    · exact .enccbc rfl rfl (hadKey rfl) (hadKey rfl) rfl rfl
    · exact .enccbc rfl rfl (hadKey rfl) (hadKey rfl) rfl rfl

/-! ### Each of the four pieces under a command -/

/-- R23: a command that is no successful LOADKEY keeps the schedule. -/
theorem InstanceEffect.cipher_eq {i : Instr} {s t : State} (h : InstanceEffect i s t)
    (notLoaded : ¬(i = .loadkey ∧ t.status = 0x00#8)) : t.cipher = s.cipher := by
  cases h with
  | kept _ keeps => exact keeps.cipher
  | loadkey cmd ok => exact absurd ⟨cmd, ok⟩ notLoaded
  | setiv _ _ _ _ cipher => exact cipher
  | enccbc _ _ _ _ cipher => exact cipher

/-- R29: a command leaves `KEYVALID` at 1 when it was 1 or when it is a successful LOADKEY. -/
theorem InstanceEffect.keyValid_iff {i : Instr} {s t : State} (h : InstanceEffect i s t) :
    t.keyValid = true ↔ s.keyValid = true ∨ (i = .loadkey ∧ t.status = 0x00#8) := by
  cases h with
  | kept quiet keeps =>
    have notLoaded : ¬(i = .loadkey ∧ t.status = 0x00#8) :=
      fun ⟨cmd, ok⟩ => by simpa [cmd, writesInstance] using quiet ok
    simp [keeps.keyValid, notLoaded]
  | loadkey cmd ok keyValid => simp [cmd, ok, keyValid]
  | setiv _ _ hadKey keyValid => simp [hadKey, keyValid]
  | enccbc _ _ hadKey keyValid => simp [hadKey, keyValid]

/-- R30: a command sets `IVSET` when it is a successful SETIV, and keeps it unless it is a successful LOADKEY or
ENCCBC. -/
theorem InstanceEffect.ivSet_iff {i : Instr} {s t : State} (h : InstanceEffect i s t) :
    t.ivSet = true ↔ (i = .setiv ∧ t.status = 0x00#8) ∨
      (s.ivSet = true ∧ ¬(i = .loadkey ∧ t.status = 0x00#8) ∧ ¬(i = .enccbc ∧ t.status = 0x00#8)) := by
  cases h with
  | kept quiet keeps =>
    have notWriter (j : Instr) (writes : writesInstance j = true) : ¬(i = j ∧ t.status = 0x00#8) :=
      fun ⟨cmd, ok⟩ => by simp [← cmd, quiet ok] at writes
    simp [keeps.ivSet, notWriter .setiv rfl, notWriter .loadkey rfl, notWriter .enccbc rfl]
  | loadkey cmd ok _ ivSet => simp [cmd, ok, ivSet]
  | setiv cmd ok _ _ _ ivSet => simp [cmd, ok, ivSet]
  | enccbc cmd ok _ _ _ ivSet => simp [cmd, ok, ivSet]

/-- R32: the commands that change the IV slot are the three writers, when they succeed. -/
theorem InstanceEffect.iv_writer {i : Instr} {s t : State} (h : InstanceEffect i s t) (changed : t.iv ≠ s.iv) :
    t.status = 0x00#8 ∧ (i = .loadkey ∨ i = .setiv ∨ i = .enccbc) := by
  cases h with
  | kept _ keeps => exact absurd keeps.iv changed
  | loadkey cmd ok => exact ⟨ok, .inl cmd⟩
  | setiv cmd ok => exact ⟨ok, .inr (.inl cmd)⟩
  | enccbc cmd ok => exact ⟨ok, .inr (.inr cmd)⟩

/-- R43 under a command: SETIV alone sets `IVSET`, and it needs a key. -/
theorem InstanceEffect.ivNeedsKey {i : Instr} {s t : State} (h : InstanceEffect i s t)
    (before : s.keyValid = false → s.ivSet = false) : t.keyValid = false → t.ivSet = false := by
  cases h with
  | kept _ keeps => rwa [keeps.keyValid, keeps.ivSet]
  | loadkey _ _ _ ivSet => exact fun _ => ivSet
  | setiv _ _ _ keyValid => simp [keyValid]
  | enccbc _ _ _ _ _ ivSet => exact fun _ => ivSet

/-! ### The four pieces under a step -/

/-- What a step from `s` to `t` is to the four pieces: the reset line, a command, or something that leaves them alone. -/
inductive InstanceStep (s t : State) : Prop
  | reset (rest : List HostMove) (move : s.inbox = .reset :: rest) (keyValid : t.keyValid = false)
      (ivSet : t.ivSet = false)
  | command (i : Instr) (rest : List HostMove) (move : s.inbox = .writeCmd (encode i) :: rest)
      (effect : InstanceEffect i s t)
  | other (noReset : ∀ rest, s.inbox ≠ .reset :: rest)
      (noCommand : ∀ i rest, s.inbox ≠ .writeCmd (encode i) :: rest) (keeps : KeepsInstance s t)

/-- The host has no way to write the four pieces but the reset line. -/
theorem hostMoved_keepsInstance {m : HostMove} (noReset : m ≠ .reset) (s : State) :
    KeepsInstance s (hostMoved m s) := by
  cases m with
  | reset => exact absurd rfl noReset
  | _ => exact ⟨rfl, rfl, rfl, rfl⟩

/-- The move taken from the inbox before the command runs makes no difference to the four pieces. -/
theorem InstanceEffect.of_dropMove {i : Instr} {s t : State} (h : InstanceEffect i s.dropMove t) :
    InstanceEffect i s t := by
  cases h with
  | kept quiet keeps => exact .kept quiet ⟨keeps.cipher, keeps.keyValid, keeps.iv, keeps.ivSet⟩
  | loadkey cmd ok keyValid ivSet => exact .loadkey cmd ok keyValid ivSet
  | setiv cmd ok hadKey keyValid cipher ivSet => exact .setiv cmd ok hadKey keyValid cipher ivSet
  | enccbc cmd ok hadKey keyValid cipher ivSet => exact .enccbc cmd ok hadKey keyValid cipher ivSet

theorem step_instanceStep {s t : State} (h : step s = .next t) : InstanceStep s t := by
  rcases step_next h with ⟨move, rfl⟩ | ⟨c, rest, move, run⟩ | ⟨m, rest, move, notCommand, rfl⟩
  · exact .other (by simp [move]) (by simp [move]) (.refl t)
  · rcases runCommand_next run with ⟨e, reserved, rfl⟩ | ⟨i, decoded, run⟩
    · refine .other (by simp [move]) (fun i rest' command => ?_) ⟨rfl, rfl, rfl, rfl⟩
      have : c = encode i := by simp_all
      simp [this] at reserved
    · exact .command i rest (eq_encode_of_decode decoded ▸ move) (exec_instanceEffect run).of_dropMove
  · by_cases isReset : m = .reset
    · subst isReset
      exact .reset rest move rfl rfl
    · obtain ⟨cipher, keyValid, iv, ivSet⟩ := hostMoved_keepsInstance isReset s.dropMove
      exact .other (by simp [move, isReset]) (by simp [move, notCommand]) ⟨cipher, keyValid, iv, ivSet⟩

/-- When the host writes a command's byte, it writes another command's byte only if that is the same command. -/
theorem writes_command_iff {s : State} {i : Instr} {rest : List HostMove}
    (move : s.inbox = .writeCmd (encode i) :: rest) (j : Instr) :
    (∃ rest', s.inbox = .writeCmd (encode j) :: rest') ↔ i = j := by
  simp [move, encode_inj]

/-- Settles O12, by what the step is to the four pieces. -/
theorem scheduleChangesOnlyInLoadkey : Obligations.ScheduleChangesOnlyInLoadkey := by
  intro s t h noReset notLoaded
  cases step_instanceStep h with
  | reset rest move => exact absurd move (noReset rest)
  | command i rest move effect =>
    exact effect.cipher_eq fun ⟨cmd, ok⟩ => notLoaded ⟨(writes_command_iff move .loadkey).2 cmd, ok⟩
  | other _ _ keeps => exact keeps.cipher

/-- Settles O13, by what the step is to the four pieces. -/
theorem keyValidTellsThatALoadkeySucceeded : Obligations.KeyValidTellsThatALoadkeySucceeded := by
  intro s t h
  cases step_instanceStep h with
  | reset rest move keyValid => simp [move, keyValid]
  | command i rest move effect =>
    have isLoadkey : (∃ rest, s.inbox = .writeCmd 0x01#8 :: rest) ↔ i = .loadkey := writes_command_iff move .loadkey
    have noReset (rest' : List HostMove) : s.inbox ≠ .reset :: rest' := by simp [move]
    rw [isLoadkey, effect.keyValid_iff]
    exact (and_iff_right noReset).symm
  | other noReset noCommand keeps =>
    have noLoadkey : ¬∃ rest, s.inbox = .writeCmd 0x01#8 :: rest := fun ⟨rest, move⟩ => noCommand .loadkey rest move
    simp [keeps.keyValid, noReset, noLoadkey]

/-- Settles O14, by what the step is to the four pieces. -/
theorem ivSetHasTheLifeOfTheSpec : Obligations.IvSetHasTheLifeOfTheSpec := by
  intro s t h
  cases step_instanceStep h with
  | reset rest move _ ivSet => simp [move, ivSet]
  | command i rest move effect =>
    have isLoadkey : (∃ rest, s.inbox = .writeCmd 0x01#8 :: rest) ↔ i = .loadkey := writes_command_iff move .loadkey
    have isSetiv : (∃ rest, s.inbox = .writeCmd 0x02#8 :: rest) ↔ i = .setiv := writes_command_iff move .setiv
    have isEnccbc : (∃ rest, s.inbox = .writeCmd 0x0A#8 :: rest) ↔ i = .enccbc := writes_command_iff move .enccbc
    have noReset (rest' : List HostMove) : s.inbox ≠ .reset :: rest' := by simp [move]
    rw [isLoadkey, isSetiv, isEnccbc, effect.ivSet_iff, and_iff_right noReset]
  | other noReset noCommand keeps =>
    have noLoadkey : ¬∃ rest, s.inbox = .writeCmd 0x01#8 :: rest := fun ⟨rest, move⟩ => noCommand .loadkey rest move
    have noSetiv : ¬∃ rest, s.inbox = .writeCmd 0x02#8 :: rest := fun ⟨rest, move⟩ => noCommand .setiv rest move
    have noEnccbc : ¬∃ rest, s.inbox = .writeCmd 0x0A#8 :: rest := fun ⟨rest, move⟩ => noCommand .enccbc rest move
    simp [keeps.ivSet, noReset, noLoadkey, noSetiv, noEnccbc]

/-- Settles O15, by what the step is to the four pieces. -/
theorem ivChangesOnlyInItsWriters : Obligations.IvChangesOnlyInItsWriters := by
  intro s t h changed
  cases step_instanceStep h with
  | reset rest move => exact .inl ⟨rest, move⟩
  | command i rest move effect =>
    obtain ⟨ok, rfl | rfl | rfl⟩ := effect.iv_writer changed
    · exact .inr ⟨ok, rest, .inl move⟩
    · exact .inr ⟨ok, rest, .inr (.inl move)⟩
    · exact .inr ⟨ok, rest, .inr (.inr move)⟩
  | other _ _ keeps => exact absurd keeps.iv changed

end Sys2Proof.Machine
end

section
/-! The invariant of the engine (spec/10_state.md R28, R43, spec/20_memory.md R53, spec/60_exceptions.md R195): its
parts, each kept by the host's moves and by every way a command can end. -/

namespace Sys2Proof.Machine

/-! ### The parts -/

/-- A buffer in canonical form that is the one its site names. -/
structure Canonical (site : FreeSite) (m : Memory) : Prop where
  wf : m.wf
  site_eq : m.site = site

theorem Canonical.blank (site : FreeSite) (epoch : Nat) : Canonical site (.blank site epoch) :=
  ⟨Memory.blank_wf site epoch, rfl⟩

theorem Canonical.write {site : FreeSite} {m : Memory} (h : Canonical site m) (off : Nat) (v : Byte) :
    Canonical site (m.write off v) :=
  ⟨Memory.write_wf off v h.wf, h.site_eq⟩

theorem Canonical.writeBytes {site : FreeSite} {m : Memory} (h : Canonical site m) (off : Nat) (vs : List Byte) :
    Canonical site (m.writeBytes off vs) :=
  ⟨Memory.writeBytes_wf off vs h.wf, (Memory.site_writeBytes m off vs).trans h.site_eq⟩

/-- What the invariant says of the registers the host reads: `OBUF`, `STATUS` and `OLEN` fit together. -/
structure OutputsFit (s : State) : Prop where
  obuf : Canonical .obuf s.obuf
  statusCode : s.status.toNat ≤ 7 ∧ s.status.toNat ≠ 2
  errorEmpty : s.status ≠ 0x00#8 → s.olen = 0
  resultWritten : ∀ a, (s.obuf.get? a).isSome = true ↔ a < s.olen

/-- The invariant by its parts. -/
theorem inv_iff (s : State) :
    Inv s ↔ Canonical .kbuf s.kbuf ∧ Canonical .ibuf s.ibuf ∧ OutputsFit s ∧
      (s.keyValid = false → s.ivSet = false) := by
  constructor
  · intro h
    exact ⟨⟨h.kbufWf, h.kbufSite⟩, ⟨h.ibufWf, h.ibufSite⟩,
      ⟨⟨h.obufWf, h.obufSite⟩, h.statusCode, h.errorEmpty, h.resultWritten⟩, h.ivNeedsKey⟩
  · rintro ⟨kbuf, ibuf, outputs, ivNeedsKey⟩
    exact ⟨kbuf.wf, ibuf.wf, outputs.obuf.wf, kbuf.site_eq, ibuf.site_eq, outputs.obuf.site_eq, ivNeedsKey,
      outputs.statusCode, outputs.errorEmpty, outputs.resultWritten⟩

/-! ### The host's moves -/

theorem hostMoved_params (m : HostMove) (s : State) : (hostMoved m s).params = s.params := by
  cases m <;> rfl

theorem hostMoved_kbuf_canonical (m : HostMove) {s : State} (h : Canonical .kbuf s.kbuf) :
    Canonical .kbuf (hostMoved m s).kbuf := by
  cases m with
  | writeKbuf off v => exact h.write off v
  | reset => exact .blank .kbuf s.epoch
  | _ => exact h

theorem hostMoved_ibuf_canonical (m : HostMove) {s : State} (h : Canonical .ibuf s.ibuf) :
    Canonical .ibuf (hostMoved m s).ibuf := by
  cases m with
  | writeIbuf off v => exact h.write off v
  | reset => exact .blank .ibuf s.epoch
  | _ => exact h

/-- The host has no way to write the outputs; the reset line empties them. -/
theorem hostMoved_outputsFit (m : HostMove) {s : State} (h : OutputsFit s) : OutputsFit (hostMoved m s) := by
  cases m with
  | reset => exact ⟨.blank .obuf s.epoch, by simp [hostMoved], fun _ => rfl, by simp [hostMoved]⟩
  | _ => exact ⟨h.obuf, h.statusCode, h.errorEmpty, h.resultWritten⟩

/-! ### The ends of a command -/

/-- The codes of the errors that the engine raises (R191, R198). -/
theorem EngineError.code_range {e : EngineError} (notHex : e ≠ .invalidHexInput) :
    e.code.toNat ≤ 7 ∧ e.code.toNat ≠ 2 := by
  cases e with
  | invalidHexInput => exact absurd rfl notHex
  | _ => decide

/-- An error of the engine leaves one of its codes and no output (R195). -/
theorem State.raise_outputsFit (s : State) {e : EngineError} (notHex : e ≠ .invalidHexInput) :
    OutputsFit (s.raise e) :=
  ⟨.blank .obuf s.epoch, EngineError.code_range notHex, fun _ => rfl, by simp⟩

/-- A success leaves code 0x00 and writes `OBUF` below `OLEN` and nowhere else (R53). -/
theorem State.complete_outputsFit (s : State) (out : List Byte) : OutputsFit (s.complete out) := by
  refine ⟨(Canonical.blank .obuf s.epoch).writeBytes 0 out, by simp, fun failed => absurd rfl failed, fun a => ?_⟩
  rw [State.get?_obuf_complete, State.complete_olen]
  simp

theorem CommandEnds.outputsFit {s t : State} (h : CommandEnds s t) : OutputsFit t := by
  cases h with
  | raised s' e _ notHex ends => exact ends ▸ s'.raise_outputsFit notHex
  | completed s' out _ ends => exact ends ▸ s'.complete_outputsFit out

/-! ### The step -/

/-- R28: the open parameters are read-only. -/
theorem step_params {s t : State} (h : step s = .next t) : t.params = s.params := by
  rcases step_next h with ⟨-, rfl⟩ | ⟨c, rest, -, run⟩ | ⟨m, rest, -, -, rfl⟩
  · rfl
  · exact (runCommand_ends run).sameInputs.params
  · exact hostMoved_params m s.dropMove

/-- Everything of the invariant but R43: the buffers and the outputs. -/
theorem step_buffers {s t : State} (h : step s = .next t) (kbuf : Canonical .kbuf s.kbuf)
    (ibuf : Canonical .ibuf s.ibuf) (outputs : OutputsFit s) :
    Canonical .kbuf t.kbuf ∧ Canonical .ibuf t.ibuf ∧ OutputsFit t := by
  rcases step_next h with ⟨-, rfl⟩ | ⟨c, rest, -, run⟩ | ⟨m, rest, -, -, rfl⟩
  · exact ⟨kbuf, ibuf, outputs⟩
  · have ends := runCommand_ends run
    refine ⟨?_, ?_, ends.outputsFit⟩
    · rw [ends.sameInputs.kbuf]; exact kbuf
    · rw [ends.sameInputs.ibuf]; exact ibuf
  · have dropped : OutputsFit s.dropMove :=
      ⟨outputs.obuf, outputs.statusCode, outputs.errorEmpty, outputs.resultWritten⟩
    exact ⟨hostMoved_kbuf_canonical m kbuf, hostMoved_ibuf_canonical m ibuf, hostMoved_outputsFit m dropped⟩

/-- R43: without a key no IV is set. -/
theorem InstanceStep.ivNeedsKey {s t : State} (h : InstanceStep s t) (before : s.keyValid = false → s.ivSet = false) :
    t.keyValid = false → t.ivSet = false := by
  cases h with
  | reset _ _ _ ivSet => exact fun _ => ivSet
  | command _ _ _ effect => exact effect.ivNeedsKey before
  | other _ _ keeps => rwa [keeps.keyValid, keeps.ivSet]

theorem step_keeps_inv {s t : State} (h : step s = .next t) (inv : Inv s) : Inv t := by
  obtain ⟨kbuf, ibuf, outputs, ivNeedsKey⟩ := (inv_iff s).1 inv
  obtain ⟨kbuf', ibuf', outputs'⟩ := step_buffers h kbuf ibuf outputs
  exact (inv_iff t).2 ⟨kbuf', ibuf', outputs', (step_instanceStep h).ivNeedsKey ivNeedsKey⟩

/-- Settles O11, part by part of the invariant. -/
theorem stepKeepsTheInvariant : Obligations.StepKeepsTheInvariant :=
  fun _ _ h => ⟨step_params h, step_keeps_inv h⟩

end Sys2Proof.Machine
end

section
/-! Independence of the key buffer (spec/20_memory.md R54): replacing `KBUF` and `KLEN` commutes with every check, with
raising and completing, and so with every command but LOADKEY. -/

namespace Sys2Proof.Machine

/-- The engine with another content of `KBUF` and another `KLEN`. -/
def State.withKey (m : Memory) (n : Nat) (s : State) : State :=
  { s with kbuf := m, klen := n }

/-- An outcome with its next state, if it has one, changed by `f`. -/
def mapNext (f : State → State) : Host.Outcome State Fault Refusal → Host.Outcome State Fault Refusal
  | .next t => .next (f t)
  | .fault r => .fault r
  | .refused r => .refused r

section
variable {f : State → State} {s : State} {body body' : Host.Outcome State Fault Refusal}

/-- A change of the state that keeps `KEYVALID` and commutes with raising passes through the check of `KEYVALID`. -/
theorem requireKey_map (keyValid : (f s).keyValid = s.keyValid) (raise : ∀ e, (f s).raise e = f (s.raise e))
    (rest : body' = mapNext f body) : requireKey (f s) body' = mapNext f (requireKey s body) := by
  unfold requireKey
  rw [keyValid, rest, raise]
  cases s.keyValid <;> rfl

/-- A change of the state that commutes with raising passes through a length check. -/
theorem requireLength_map {ok : Bool} {e : EngineError} (raise : ∀ e, (f s).raise e = f (s.raise e))
    (rest : body' = mapNext f body) : requireLength (f s) ok e body' = mapNext f (requireLength s ok e body) := by
  unfold requireLength
  rw [rest, raise]
  cases ok <;> rfl

end

section
variable (m : Memory) (n : Nat) (s : State)

theorem raise_withKey (e : EngineError) : (s.withKey m n).raise e = (s.raise e).withKey m n := rfl

theorem complete_withKey (out : List Byte) : (s.withKey m n).complete out = (s.complete out).withKey m n := rfl

theorem encryptCbc_withKey (iv : Block) : encryptCbc (s.withKey m n) iv = (encryptCbc s iv).withKey m n := rfl

/-- ENCCBC's choice between the set IV and a draw does not look at the key buffer. -/
theorem execEnccbc_withKey : execEnccbc (s.withKey m n) = mapNext (State.withKey m n) (execEnccbc s) := by
  refine requireKey_map rfl (raise_withKey m n s) ?_
  have ivSet : (s.withKey m n).ivSet = s.ivSet := rfl
  have answer : (s.withKey m n).entropyAnswer = s.entropyAnswer := rfl
  rw [ivSet, answer]
  cases s.ivSet with
  | true => rfl
  | false => cases drawnBytes s.entropyAnswer <;> rfl

theorem exec_withKey {i : Instr} (notLoadkey : i ≠ .loadkey) :
    exec i (s.withKey m n) = mapNext (State.withKey m n) (exec i s) := by
  have checksKey {body body'} := requireKey_map (f := State.withKey m n) (s := s) (body := body) (body' := body') rfl
    (raise_withKey m n s)
  have checksLength {ok e body body'} := requireLength_map (f := State.withKey m n) (s := s) (ok := ok) (e := e)
    (body := body) (body' := body') (raise_withKey m n s)
  cases i with
  | loadkey => exact absurd rfl notLoadkey
  | pad => exact congrArg Host.Outcome.next (complete_withKey m n s _)
  | padiv => exact congrArg Host.Outcome.next (complete_withKey m n s _)
  | unpad => exact checksLength rfl
  | encecb => exact checksKey rfl
  | enccbc => exact execEnccbc_withKey m n s
  | setiv => exact checksKey (checksLength rfl)
  | encblk => exact checksKey (checksLength rfl)
  | decblk => exact checksKey (checksLength rfl)
  | dececb => exact checksKey (checksLength rfl)
  | deccbc => exact checksKey (checksLength rfl)

end

/-- Settles O19: the command commutes with replacing the key buffer. -/
theorem onlyLoadkeyReadsTheKeyBuffer : Obligations.OnlyLoadkeyReadsTheKeyBuffer := by
  intro i s t m n notLoadkey h
  calc exec i (s.withKey m n) = mapNext (State.withKey m n) (exec i s) := exec_withKey m n s notLoadkey
    _ = .next (t.withKey m n) := by rw [h]; rfl

end Sys2Proof.Machine
end

section
/-! Earlier results (spec/20_memory.md R52, R54): raising and completing overwrite `OBUF`, `OLEN` and `STATUS`, and
nothing else that a command does looks at them. -/

namespace Sys2Proof.Machine

/-- The engine with another earlier result: another content of `OBUF`, another `OLEN` and another `STATUS`. -/
def State.withOutputs (m : Memory) (n : Nat) (c : Byte) (s : State) : State :=
  { s with obuf := m, olen := n, status := c }

section
variable {s s' : State} {body body' : Host.Outcome State Fault Refusal}

/-- Two states that `KEYVALID` and raising do not tell apart pass the check of `KEYVALID` alike. -/
theorem requireKey_congr (keyValid : s'.keyValid = s.keyValid) (raise : ∀ e, s'.raise e = s.raise e)
    (rest : body' = body) : requireKey s' body' = requireKey s body := by
  unfold requireKey
  rw [keyValid, raise, rest]

/-- Two states that raising does not tell apart pass a length check alike. -/
theorem requireLength_congr {ok : Bool} {e : EngineError} (raise : ∀ e, s'.raise e = s.raise e)
    (rest : body' = body) : requireLength s' ok e body' = requireLength s ok e body := by
  unfold requireLength
  rw [raise, rest]

end

section
variable (m : Memory) (n : Nat) (c : Byte) (s : State)

theorem raise_withOutputs (e : EngineError) : (s.withOutputs m n c).raise e = s.raise e := rfl

theorem complete_withOutputs (out : List Byte) : (s.withOutputs m n c).complete out = s.complete out := rfl

/-- No check and no operand of a command is an output, and every end of a command overwrites them. -/
theorem exec_withOutputs (i : Instr) : exec i (s.withOutputs m n c) = exec i s := by
  have checksKey {body body'} := requireKey_congr (s := s) (s' := s.withOutputs m n c) (body := body)
    (body' := body') rfl (raise_withOutputs m n c s)
  have checksLength {ok e body body'} := requireLength_congr (s := s) (s' := s.withOutputs m n c) (ok := ok) (e := e)
    (body := body) (body' := body') (raise_withOutputs m n c s)
  cases i with
  | pad => exact congrArg Host.Outcome.next (complete_withOutputs m n c s _)
  | padiv => exact congrArg Host.Outcome.next (complete_withOutputs m n c s _)
  | loadkey => exact checksLength rfl
  | unpad => exact checksLength rfl
  | encecb => exact checksKey rfl
  | enccbc => exact checksKey rfl
  | setiv => exact checksKey (checksLength rfl)
  | encblk => exact checksKey (checksLength rfl)
  | decblk => exact checksKey (checksLength rfl)
  | dececb => exact checksKey (checksLength rfl)
  | deccbc => exact checksKey (checksLength rfl)

end

/-- Settles O22. -/
theorem earlierResultsHaveNoEffect : Obligations.EarlierResultsHaveNoEffect :=
  fun i s m n c => exec_withOutputs m n c s i

end Sys2Proof.Machine
end

section
/-! The key operand (spec/20_memory.md R54, R58, spec/40_key_schedule.md R101, R103, R106): what a successful LOADKEY
installs, and how the key's bytes enter the round keys. -/

namespace Sys2Proof.Machine

/-- LOADKEY succeeds exactly on a key length of R101, and then commits the schedule of its key and delivers nothing. -/
theorem exec_loadkey_succeeds_iff {s t : State} :
    exec .loadkey s = .next t ∧ t.status = 0x00#8 ↔
      (Config.keyMin ≤ s.klen ∧ s.klen ≤ Config.keyMax) ∧
        t = (s.commitKey (deriveSchedule s.params.initP s.params.initS s.keyOperand)).complete [] := by
  have run : exec .loadkey s = execLoadkey s := rfl
  rw [run, execLoadkey, requireLength_next]
  constructor
  · rintro ⟨⟨accepted, ends⟩ | ⟨-, rfl⟩, ok⟩
    · exact ⟨by simpa using accepted, (Host.Outcome.next.inj ends).symm⟩
    · exact absurd ok (EngineError.code_ne_zero .invalidKeyLength)
  · rintro ⟨accepted, rfl⟩
    exact ⟨.inl ⟨by simpa using accepted, rfl⟩, rfl⟩

/-- Settles O20: the key length, the key and the schedule derived from it are the same, and committing it overwrites
all that differs but the input and the answers. -/
theorem loadkeyReadsOnlyTheKey : Obligations.LoadkeyReadsOnlyTheKey := by
  intro s t m om n on c kv iset iv st ans run ok
  obtain ⟨accepted, rfl⟩ := exec_loadkey_succeeds_iff.1 ⟨run, ok⟩
  exact And.left (exec_loadkey_succeeds_iff.2 ⟨accepted, rfl⟩)

/-- The key cycled modulo its length (R103): the default byte of `keyByte` is never taken. -/
theorem keyByte_eq_getElem {key : List Byte} (h : 0 < key.length) (j : Nat) :
    keyByte key j = key[j % key.length]'(Nat.mod_lt _ h) :=
  List.getD_eq_getElem _ _ _

theorem getElem_mixKey (initP : RoundKeys) (key : List Byte) (i : Nat) (hi : i < 18) :
    (mixKey initP key)[i] = initP[i] ^^^ keyWord key i := by
  simp [mixKey]

/-- Settles O33: word `i` is mixed with its key word, whose four bytes are bytes of the cycled key. -/
theorem keyIsMixedBigEndianAndCycled : Obligations.KeyIsMixedBigEndianAndCycled := by
  intro initP key h i hi
  rw [getElem_mixKey, keyWord, be32]
  simp only [keyByte_eq_getElem h]

end Sys2Proof.Machine
end

section
/-! Every command ends (spec/20_memory.md R55, R73, spec/30_encoding.md R90, spec/60_exceptions.md R190): the lengths of
the results of the codec and of the modes, the bound `resultLength` on a command's `OLEN`, and the one step that is
refused. -/

namespace Sys2Proof.Machine

/-! ### The lengths of results -/

theorem lt_paddedLength (n : Nat) : n < paddedLength n := by
  simp only [paddedLength, Config.blockBytes]
  omega

theorem paddedLength_mod (n : Nat) : paddedLength n % 8 = 0 :=
  Nat.mul_mod_right 8 _

@[simp] theorem length_padBody (e : Byte) (data : List Byte) : (padBody e data).length = paddedLength data.length := by
  have := lt_paddedLength data.length
  simp only [padBody, List.length_append, List.length_replicate]
  omega

@[simp] theorem length_padWithSlot (e : Byte) (slot : Block) (data : List Byte) :
    (padWithSlot e slot data).length = paddedLength data.length + 8 := by
  simp [padWithSlot, Nat.add_comm]

/-- The IV takes the place of the reserved block. -/
theorem length_embedIv (iv : Block) {wbuf : List Byte} (h : 8 ≤ wbuf.length) :
    (embedIv iv wbuf).length = wbuf.length := by
  simp only [embedIv, List.length_append, Vector.length_toList, List.length_drop, Config.blockBytes]
  omega

/-- A CBC loop keeps the length of a sequence of whole blocks when its chain keeps the number of blocks. -/
theorem length_cbcLoop {chain : Block → List Block → List Block}
    (keeps : ∀ iv blocks, (chain iv blocks).length = blocks.length) {wbuf : List Byte} (h : wbuf.length % 8 = 0) :
    (cbcLoop chain wbuf).length = wbuf.length := by
  have count := length_blocksOf wbuf h
  unfold cbcLoop
  split
  next noBlock =>
    simp only [noBlock, List.length_nil] at count ⊢
    omega
  next iv rest someBlock =>
    simp only [someBlock, List.length_cons] at count
    simp only [length_bytesOf, List.length_cons, keeps]
    omega

/-- Unpadding cuts off the final byte at least: the scan begins with it and finds it equal to itself (R147). -/
theorem unpad_le_pred (buf : List Byte) : unpad buf ≤ buf.length - 1 := by
  rcases List.eq_nil_or_concat buf with rfl | ⟨front, last, rfl⟩
  · exact Nat.le_refl 0
  · have scan := (unpadScan_spec (front ++ [last]) last front.length).1
    simpa [unpad, unpadScan] using scan

/-! ### The ends of a command -/

/-- The command answers a next state, with a result of at most `bound` bytes. -/
def EndsWithin (bound : Nat) (o : Host.Outcome State Fault Refusal) : Prop :=
  ∃ t, o = .next t ∧ t.olen ≤ bound

theorem EndsWithin.raise (bound : Nat) (s : State) (e : EngineError) : EndsWithin bound (.next (s.raise e)) :=
  ⟨_, rfl, Nat.zero_le _⟩

theorem EndsWithin.complete {bound : Nat} {out : List Byte} (h : out.length ≤ bound) (s : State) :
    EndsWithin bound (.next (s.complete out)) :=
  ⟨_, rfl, h⟩

theorem EndsWithin.requireKey {bound : Nat} {s : State} {body : Host.Outcome State Fault Refusal}
    (h : EndsWithin bound body) : EndsWithin bound (requireKey s body) := by
  cases key : s.keyValid with
  | true => rwa [requireKey_of_key key]
  | false => rw [requireKey_of_no_key key]; exact .raise bound s _

theorem EndsWithin.requireLength {bound : Nat} {s : State} {ok : Bool} {e : EngineError}
    {body : Host.Outcome State Fault Refusal} (h : ok = true → EndsWithin bound body) :
    EndsWithin bound (requireLength s ok e body) := by
  cases ok with
  | true => exact h rfl
  | false => exact .raise bound s e

/-- The result is the padded data with its leading block, whichever IV that block takes. -/
theorem encryptCbc_endsWithin (s : State) (iv : Block) :
    EndsWithin (resultLength .enccbc s.ilen) (.next (encryptCbc s iv)) := by
  have padded := length_padWithSlot s.params.emptyLast (freeBlock .slot s.epoch) s.inputOperand
  rw [length_inputOperand] at padded
  have embedded := (length_embedIv iv (by omega)).trans padded
  have whole := paddedLength_mod s.ilen
  have chained := (length_cbcLoop (length_cbcEncipher s.cipher) (by omega)).trans embedded
  exact .complete chained.le (s.consumeIv iv)

theorem execEnccbc_endsWithin (s : State) : EndsWithin (resultLength .enccbc s.ilen) (execEnccbc s) := by
  refine .requireKey ?_
  split
  · exact encryptCbc_endsWithin s s.iv
  · split
    · exact .raise _ s.dropAnswer _
    · exact encryptCbc_endsWithin s.dropAnswer _

theorem execUnpad_endsWithin (s : State) : EndsWithin (resultLength .unpad s.ilen) (execUnpad s) := by
  have cut := unpad_le_pred s.inputOperand
  rw [length_inputOperand] at cut
  exact .requireLength fun _ => .complete ((List.length_take_le _ _).trans cut) s

theorem execDececb_endsWithin (s : State) : EndsWithin (resultLength .dececb s.ilen) (execDececb s) := by
  refine .requireKey (.requireLength fun accepted => .complete ?_ s)
  obtain ⟨whole, -⟩ : s.ilen % 8 = 0 ∧ s.ilen ≠ 0 := by simpa [ecbLengthOk] using accepted
  have cut := unpad_le_pred (ecbLoop (decBlock s.cipher) s.inputOperand)
  rw [length_ecbLoop _ _ (by rwa [length_inputOperand]), length_inputOperand] at cut
  exact (List.length_take_le _ _).trans cut

/-- With at least two blocks, the boundary held at 8 from below leaves no more than the cut does. -/
theorem execDeccbc_endsWithin (s : State) : EndsWithin (resultLength .deccbc s.ilen) (execDeccbc s) := by
  refine .requireKey (.requireLength fun accepted => .complete ?_ s)
  obtain ⟨whole, twoBlocks⟩ : s.ilen % 8 = 0 ∧ 16 ≤ s.ilen := by simpa [cbcLengthOk] using accepted
  have cut := unpad_le_pred (cbcLoop (cbcDecipher s.cipher) s.inputOperand)
  rw [length_cbcLoop (length_cbcDecipher s.cipher) (by rwa [length_inputOperand]), length_inputOperand] at cut
  simp only [List.length_drop, List.length_take, resultLength, Config.blockBytes]
  omega

/-- R73, R90: every command answers a next state, with a result as long as `resultLength` says at most. -/
theorem exec_endsWithin (i : Instr) (s : State) : EndsWithin (resultLength i s.ilen) (exec i s) := by
  cases i with
  | loadkey => exact .requireLength fun _ => .complete (Nat.le_refl 0) _
  | setiv => exact .requireKey (.requireLength fun _ => .complete (Nat.le_refl 0) _)
  | encblk => exact .requireKey (.requireLength fun _ => .complete (by simp [resultLength]) s)
  | decblk => exact .requireKey (.requireLength fun _ => .complete (by simp [resultLength]) s)
  | pad => exact .complete (by simp [resultLength]) s
  | padiv => exact .complete (by simp [resultLength]) s
  | unpad => exact execUnpad_endsWithin s
  | encecb =>
    refine .requireKey (.complete (Nat.le_of_eq ?_) s)
    rw [length_ecbLoop] <;> simp [resultLength, paddedLength_mod]
  | dececb => exact execDececb_endsWithin s
  | enccbc => exact execEnccbc_endsWithin s
  | deccbc => exact execDeccbc_endsWithin s

/-! ### The step that is refused -/

theorem not_presentable_iff {s : State} : ¬Presentable s ↔ ∃ m, s.params.maxLen = some m ∧ m < s.ilen := by
  simp [Presentable]

/-- R55: a command the platform cannot hold is refused, whichever it is. -/
theorem runCommand_encode_refused {s : State} (h : ¬Presentable s) (i : Instr) :
    runCommand (encode i) s = .refused .beyondCapacity := by
  simp [runCommand, hostRefusal_eq, not_presentable_iff.1 h]

/-- A command byte is answered when the platform can hold the input, and in any case when it is a reserved one. -/
theorem runCommand_answers {c : Byte} {s : State} (h : Presentable s ∨ ∀ i, c ≠ encode i) :
    ∃ t, runCommand c s = .next t := by
  cases decoded : decode c with
  | error _ => exact ⟨s.raise .illegalCommand, by simp [runCommand, decoded]⟩
  | ok i =>
    have presentable := h.resolve_right fun reserved => reserved i (eq_encode_of_decode decoded)
    obtain ⟨t, run, -⟩ := exec_endsWithin i s
    exact ⟨t, by rw [runCommand_eq presentable, decoded]; exact run⟩

/-- A step that writes no command's byte, or writes it when the platform can hold the input, is answered. -/
theorem step_answers {s : State} (h : Presentable s ∨ ∀ i rest, s.inbox ≠ .writeCmd (encode i) :: rest) :
    ∃ t, step s = .next t := by
  cases inbox : s.inbox with
  | nil => exact ⟨s, step_of_no_move inbox⟩
  | cons m rest =>
    by_cases command : ∃ c, m = .writeCmd c
    · obtain ⟨c, rfl⟩ := command
      rw [step_of_writeCmd inbox]
      exact runCommand_answers (h.imp id fun reserved i isCommand => reserved i rest (isCommand ▸ inbox))
    · exact ⟨_, step_of_host_move inbox fun c isWrite => command ⟨c, isWrite⟩⟩

/-- Settles O9: `resultLength` bounds a result and is itself at most `ILEN` + 16; the step refuses a command exactly
when the platform cannot hold its input. -/
theorem everyStepAnswersANextState : Obligations.EveryStepAnswersANextState := by
  refine ⟨fun i s => ?_, fun s => ⟨?_, fun notRefused => ?_⟩⟩
  · obtain ⟨t, run, bound⟩ := exec_endsWithin i s
    exact ⟨t, run, bound.trans (resultLength_le i s.ilen)⟩
  · rintro ⟨beyond, i, rest, move⟩
    rw [step_of_writeCmd move]
    exact runCommand_encode_refused (s := { s with inbox := rest }) (not_presentable_iff.2 beyond) i
  · refine step_answers (or_iff_not_imp_left.2 fun beyond i rest move => notRefused ?_)
    exact ⟨not_presentable_iff.1 beyond, i, rest, move⟩

end Sys2Proof.Machine
end

section
/-! The opcode map (spec/30_encoding.md R82, R84, R87): every byte is a command's own or a reserved one, the reserved
bytes are 0x00 and those from 0x0C on, and such a byte raises `IllegalCommand`. -/

namespace Sys2Proof.Machine

/-! ### Reserved bytes -/

/-- Decoding is total: a byte is answered with a command, or named as reserved. -/
theorem decode_ok_or_reserved (c : Byte) : (∃ i, decode c = .ok i) ∨ decode c = .error (.reserved c) := by
  unfold decode
  split <;> simp

/-- A byte that is no command's byte is named as reserved (R84). -/
theorem decode_of_ne_encode {c : Byte} (reserved : ∀ i, c ≠ encode i) : decode c = .error (.reserved c) := by
  rcases decode_ok_or_reserved c with ⟨i, decoded⟩ | refused
  · exact absurd (eq_encode_of_decode decoded) (reserved i)
  · exact refused

/-- The command bytes are 0x01 to 0x0B (R82). -/
theorem encode_toNat_range (i : Instr) : 1 ≤ (encode i).toNat ∧ (encode i).toNat ≤ 11 := by
  cases i <;> decide

/-- The bytes on either side of the opcode map are no command's (R84). -/
theorem ne_encode_of_outside {c : Byte} (outside : c.toNat = 0 ∨ 12 ≤ c.toNat) (i : Instr) : c ≠ encode i := by
  rintro rfl
  have := encode_toNat_range i
  omega

/-- Running a reserved byte, whatever the platform can hold: no command is presented (R84, R201). -/
theorem runCommand_of_ne_encode {c : Byte} (reserved : ∀ i, c ≠ encode i) (s : State) :
    runCommand c s = .next (s.raise .illegalCommand) := by
  simp [runCommand, decode_of_ne_encode reserved]

/-! ### The rows of the opcode table -/

theorem decodeTableWord_encode (i : Instr) : decodeTableWord 8 (encode i).toNat = some i := by
  simp [decodeTableWord, (encode i).isLt, Except.toOption]

theorem decodeTableWord_of_outside {w : Nat} (byte : w < 256) (outside : w = 0 ∨ 12 ≤ w) :
    decodeTableWord 8 w = none := by
  have value : (BitVec.ofNat 8 w).toNat = w := by simp [Nat.mod_eq_of_lt byte]
  have reserved := ne_encode_of_outside (c := BitVec.ofNat 8 w) (by rwa [value])
  simp [decodeTableWord, decode_of_ne_encode reserved, Except.toOption]

/-! ### The statements -/

/-- Settles O2: a byte decodes to a command exactly when it is that command's byte, and is named as reserved when it is
no command's. -/
theorem decodeAndEncodeAgree : Obligations.DecodeAndEncodeAgree :=
  ⟨fun i _ => decode_encode i, fun _ _ => eq_encode_of_decode, fun _ => decode_of_ne_encode⟩

/-- Settles O1: the eleven words are the commands' bytes in the order of the table, and the two others lie outside. -/
theorem decoderReadsTheOpcodeMap : Obligations.DecoderReadsTheOpcodeMap :=
  ⟨decodeTableWord_encode .loadkey, decodeTableWord_encode .setiv, decodeTableWord_encode .encblk,
    decodeTableWord_encode .decblk, decodeTableWord_encode .pad, decodeTableWord_encode .padiv,
    decodeTableWord_encode .unpad, decodeTableWord_encode .encecb, decodeTableWord_encode .dececb,
    decodeTableWord_encode .enccbc, decodeTableWord_encode .deccbc,
    decodeTableWord_of_outside (by decide) (.inl rfl), decodeTableWord_of_outside (by decide) (.inr (Nat.le_refl 12))⟩

/-- Settles O4: the byte is no command's, so the step raises `IllegalCommand` on the state with the move taken. -/
theorem reservedByteRaisesIllegalCommand : Obligations.ReservedByteRaisesIllegalCommand := by
  intro s c rest move outside
  have run : step s = .next (State.raise { s with inbox := rest } .illegalCommand) := by
    rw [step_of_writeCmd move, runCommand_of_ne_encode (ne_encode_of_outside outside)]
  exact ⟨_, run, rfl, State.raise_raises _ _, rfl⟩

end Sys2Proof.Machine
end

section
/-! The checks in their order (spec/60_exceptions.md R197, R202, R204, spec/44_cbc.md R174, R175): every command is one
chain of checks, read off the tables `needsKey`, `acceptsLengths` and `lengthError`, in front of what it does when they
pass; and only ENCCBC's draw can fail after that. -/

namespace Sys2Proof.Machine

/-! ### The chain of checks -/

/-- The length check of the table R197, where the command has one. -/
def checkLength (i : Instr) (s : State) (body : Host.Outcome State Fault Refusal) : Host.Outcome State Fault Refusal :=
  match lengthError i with
  | some e => requireLength s (acceptsLengths i s) e body
  | none => body

/-- The two checks that come before a command's body: the key, then the length (R197). -/
def checkInOrder (i : Instr) (s : State) (body : Host.Outcome State Fault Refusal) : Host.Outcome State Fault Refusal :=
  if needsKey i then requireKey s (checkLength i s body) else checkLength i s body

section
variable {i : Instr} {s : State} {body : Host.Outcome State Fault Refusal}

theorem checkInOrder_of_no_key (needs : needsKey i = true) (noKey : s.keyValid = false) :
    checkInOrder i s body = .next (s.raise .noKey) := by
  simp [checkInOrder, needs, noKey]

/-- With its key there, or none needed, a command goes on to its length check. -/
theorem checkInOrder_of_key (key : needsKey i = true → s.keyValid = true) :
    checkInOrder i s body = checkLength i s body := by
  cases needs : needsKey i with
  | true => simp [checkInOrder, needs, key needs]
  | false => simp [checkInOrder, needs]

/-- A command that does not accept every length has an error for it. -/
theorem lengthError_of_rejected (rejected : acceptsLengths i s = false) : ∃ e, lengthError i = some e := by
  cases i with
  | pad | padiv | encecb | enccbc => cases rejected
  | _ => exact ⟨_, rfl⟩

theorem checkLength_of_rejected (rejected : acceptsLengths i s = false) {e : EngineError}
    (error : lengthError i = some e) : checkLength i s body = .next (s.raise e) := by
  simp [checkLength, error, requireLength, rejected]

theorem checkLength_of_accepted (accepted : acceptsLengths i s = true) : checkLength i s body = body := by
  cases error : lengthError i <;> simp [checkLength, error, requireLength, accepted]

/-- A length check of the model is the table's when it accepts the same lengths. -/
theorem requireLength_eq_checkLength {e : EngineError} (error : lengthError i = some e) {ok : Bool}
    (agrees : ok = acceptsLengths i s) : requireLength s ok e body = checkLength i s body := by
  simp [checkLength, error, agrees]

end

theorem keyLength_agrees (s : State) :
    (Config.keyMin ≤ s.klen && s.klen ≤ Config.keyMax) = acceptsLengths .loadkey s := by
  simp [acceptsLengths]

theorem nonempty_agrees (s : State) : (s.ilen != 0) = acceptsLengths .unpad s := by
  rw [Bool.eq_iff_iff]
  simp [acceptsLengths]

theorem ecbLengthOk_agrees (s : State) : ecbLengthOk s.ilen = acceptsLengths .dececb s := by
  rw [Bool.eq_iff_iff]
  simp [ecbLengthOk, acceptsLengths]

theorem cbcLengthOk_agrees (s : State) : cbcLengthOk s.ilen = acceptsLengths .deccbc s := by
  rw [Bool.eq_iff_iff]
  simp [cbcLengthOk, acceptsLengths]

/-! ### Every command behind its checks -/

/-- What DECCBC delivers (R182 to R184): the ciphertext un-chained, and cut from 8 to the larger of `Unpad` and 8. -/
def cbcPlaintext (c : CipherState) (ciphertext : List Byte) : List Byte :=
  let wbuf := cbcLoop (cbcDecipher c) ciphertext
  (wbuf.take (max (unpad wbuf) 8)).drop 8

theorem exec_deccbc_eq_checks (s : State) :
    exec .deccbc s = checkInOrder .deccbc s (.next (s.complete (cbcPlaintext s.cipher s.inputOperand))) :=
  congrArg (requireKey s) (requireLength_eq_checkLength rfl (cbcLengthOk_agrees s))

/-- Every other command asks no entropy and succeeds when its checks pass. -/
theorem exec_eq_checks {i : Instr} (notEnccbc : i ≠ .enccbc) (s : State) :
    ∃ (s' : State) (out : List Byte), s'.entropy = s.entropy ∧
      exec i s = checkInOrder i s (.next (s'.complete out)) := by
  cases i with
  | enccbc => exact absurd rfl notEnccbc
  | loadkey => exact ⟨s.commitKey _, _, rfl, requireLength_eq_checkLength rfl (keyLength_agrees s)⟩
  | setiv => exact ⟨s.storeIv _, _, rfl, rfl⟩
  | encblk => exact ⟨s, _, rfl, rfl⟩
  | decblk => exact ⟨s, _, rfl, rfl⟩
  | pad => exact ⟨s, _, rfl, rfl⟩
  | padiv => exact ⟨s, _, rfl, rfl⟩
  | unpad => exact ⟨s, _, rfl, requireLength_eq_checkLength rfl (nonempty_agrees s)⟩
  | encecb => exact ⟨s, _, rfl, rfl⟩
  | dececb =>
    exact ⟨s, _, rfl, congrArg (requireKey s) (requireLength_eq_checkLength rfl (ecbLengthOk_agrees s))⟩
  | deccbc => exact ⟨s, _, rfl, exec_deccbc_eq_checks s⟩

/-- The chain in front of a body, whichever command it is. -/
theorem exec_eq_checks_of_any (i : Instr) (s : State) : ∃ body, exec i s = checkInOrder i s body := by
  by_cases isEnccbc : i = .enccbc
  · subst isEnccbc
    exact ⟨_, rfl⟩
  · obtain ⟨s', out, -, run⟩ := exec_eq_checks isEnccbc s
    exact ⟨_, run⟩

/-! ### Where a command ends -/

section
variable {i : Instr} {s : State}

theorem exec_of_no_key (needs : needsKey i = true) (noKey : s.keyValid = false) :
    exec i s = .next (s.raise .noKey) := by
  obtain ⟨body, run⟩ := exec_eq_checks_of_any i s
  rw [run, checkInOrder_of_no_key needs noKey]

theorem exec_of_rejected (key : needsKey i = true → s.keyValid = true) (rejected : acceptsLengths i s = false) :
    ∃ e, lengthError i = some e ∧ exec i s = .next (s.raise e) := by
  obtain ⟨body, run⟩ := exec_eq_checks_of_any i s
  obtain ⟨e, error⟩ := lengthError_of_rejected rejected
  exact ⟨e, error, by rw [run, checkInOrder_of_key key, checkLength_of_rejected rejected error]⟩

/-- ENCCBC accepts every length, so with its key there the IV is all that is left to it. -/
theorem exec_enccbc_of_set (key : s.keyValid = true) (set : s.ivSet = true) :
    exec .enccbc s = .next (encryptCbc s s.iv) := by
  simp [exec, execEnccbc, key, set]

theorem exec_enccbc_of_no_draw (key : s.keyValid = true) (unset : s.ivSet = false)
    (failed : drawnBytes s.entropyAnswer = none) :
    exec .enccbc s = .next (s.dropAnswer.raise .entropySourceFailure) := by
  simp [exec, execEnccbc, key, unset, failed]

theorem exec_enccbc_of_draw (key : s.keyValid = true) (unset : s.ivSet = false) {iv : Block}
    (drawn : drawnBytes s.entropyAnswer = some iv) : exec .enccbc s = .next (encryptCbc s.dropAnswer iv) := by
  simp [exec, execEnccbc, key, unset, drawn]

/-- A command that passes its checks and draws nothing succeeds, and the entropy answers stay (R202, R204). -/
theorem exec_of_accepted (key : needsKey i = true → s.keyValid = true) (accepted : acceptsLengths i s = true)
    (noDraw : i = .enccbc → s.ivSet = true) :
    ∃ (s' : State) (out : List Byte), s'.entropy = s.entropy ∧ exec i s = .next (s'.complete out) := by
  by_cases isEnccbc : i = .enccbc
  · subst isEnccbc
    exact ⟨s.consumeIv s.iv, _, rfl, exec_enccbc_of_set (key rfl) (noDraw rfl)⟩
  · obtain ⟨s', out, entropy, run⟩ := exec_eq_checks isEnccbc s
    exact ⟨s', out, entropy, by rw [run, checkInOrder_of_key key, checkLength_of_accepted accepted]⟩

/-- Running a command's own byte when the platform can hold the input. -/
theorem runCommand_encode (presentable : Presentable s) (i : Instr) : runCommand (encode i) s = exec i s := by
  rw [runCommand_eq presentable, decode_encode]

end

/-- A failed draw changes what an error changes, and uses up one answer (R195, R203). -/
theorem State.dropAnswer_raise_raises (s : State) (e : EngineError) : Raises s (s.dropAnswer.raise e) e :=
  ⟨rfl, rfl, fun _ => rfl, ⟨rfl, rfl, rfl, rfl⟩, ⟨rfl, rfl, fun _ => rfl, fun _ => rfl, rfl, rfl⟩⟩

/-- Settles O17: the step runs the byte on the state with the move taken, and each clause is the place where the chain
of that command ends. -/
theorem checksAreMadeInOrder : Obligations.ChecksAreMadeInOrder := by
  intro s c rest move presentable
  have presentableNext : Presentable s.dropMove := presentable
  obtain ⟨t, answer⟩ := runCommand_answers (c := c) (.inl presentableNext)
  rw [← State.dropMove_of_inbox move]
  refine ⟨t, ?_, fun reserved => ?_, ?_⟩
  · rw [step_of_writeCmd move, ← State.dropMove_of_inbox move, answer]
  · cases (runCommand_of_ne_encode reserved s.dropMove).symm.trans answer
    exact ⟨State.raise_raises _ _, rfl⟩
  rintro i rfl
  rw [runCommand_encode presentableNext] at answer
  refine ⟨fun needs noKey => ?_, fun key rejected => ?_, fun key _ isEnccbc unset => ?_, fun key accepted noDraw => ?_⟩
  · cases (exec_of_no_key (s := s.dropMove) needs noKey).symm.trans answer
    exact ⟨State.raise_raises _ _, rfl⟩
  · obtain ⟨e, error, run⟩ := exec_of_rejected (s := s.dropMove) key rejected
    cases run.symm.trans answer
    exact ⟨⟨e, error, State.raise_raises _ e⟩, rfl⟩
  · subst isEnccbc
    cases drawn : drawnBytes s.entropyAnswer with
    | none =>
      cases (exec_enccbc_of_no_draw (s := s.dropMove) (key rfl) unset drawn).symm.trans answer
      exact ⟨rfl, fun _ => State.dropAnswer_raise_raises _ _, fun succeeded => absurd rfl succeeded⟩
    | some iv =>
      cases (exec_enccbc_of_draw (s := s.dropMove) (key rfl) unset drawn).symm.trans answer
      exact ⟨rfl, nofun, fun _ => rfl⟩
  · obtain ⟨s', out, entropy, run⟩ := exec_of_accepted (s := s.dropMove) key accepted noDraw
    cases run.symm.trans answer
    exact ⟨rfl, entropy⟩

end Sys2Proof.Machine
end

section
/-! A pseudo-command (spec/30_encoding.md R93, R95, with R106, R181 to R184): what the host's placing of an operand does,
what LOADKEY and DECCBC answer when issued with an operand, and the two in a row. -/

namespace Sys2Proof.Machine

/-! ### The un-chained working buffer -/

theorem length_cbcLoop_decipher (c : CipherState) {ct : List Byte} (whole : ct.length % 8 = 0) :
    (cbcLoop (cbcDecipher c) ct).length = ct.length :=
  length_cbcLoop (length_cbcDecipher c) whole

/-- Block 0 stays, and every later block is deciphered and XORed with the ciphertext block before it (R182, R183). -/
theorem blockAt_cbcLoop_decipher (c : CipherState) {ct : List Byte} (whole : ct.length % 8 = 0)
    (hasBlock : 8 ≤ ct.length) :
    blockAt (cbcLoop (cbcDecipher c) ct) 0 = blockAt ct 0 ∧
    ∀ k, k + 1 < ct.length / 8 → blockAt (cbcLoop (cbcDecipher c) ct) (k + 1) =
      xor8 (decBlock c (blockAt ct (k + 1))) (blockAt ct k) := by
  have count := length_blocksOf ct whole
  have block := blockAt_eq_getElem_blocksOf ct whole
  cases blocks : blocksOf ct with
  | nil =>
    simp only [blocks, List.length_nil] at count
    omega
  | cons iv rest =>
    simp only [blocks, List.length_cons] at count
    have loop : cbcLoop (cbcDecipher c) ct = bytesOf (iv :: cbcDecipher c iv rest) := by simp [cbcLoop, blocks]
    simp only [blocks] at block
    rw [loop]
    refine ⟨?_, fun k inside => ?_⟩
    · rw [block 0 (by omega), bytesOf_cons, blockAt_block_append_zero, List.getElem_cons_zero]
    · rw [block (k + 1) inside, block k (by omega), blockAt_cbcDecipher c iv rest k (by omega),
        List.getElem_cons_succ]

/-! ### An operand placed -/

theorem Memory.read_writeBytes_from_zero (m : Memory) (vs : List Byte) (j : Nat) (inside : j < vs.length) :
    (m.writeBytes 0 vs).read j = vs[j] := by
  simpa using m.read_writeBytes_inside 0 vs j inside

theorem placeOperand_loadkey_keyIs (key : List Byte) (s : State) : KeyIs (placeOperand .loadkey key s) key :=
  ⟨rfl, Memory.read_writeBytes_from_zero s.kbuf key⟩

theorem placeOperand_deccbc_inputIs (ct : List Byte) (s : State) : InputIs (placeOperand .deccbc ct s) ct :=
  ⟨rfl, Memory.read_writeBytes_from_zero s.ibuf ct⟩

/-! ### The two commands issued -/

theorem newCipher_eq_exec {key : List Byte} {s : State} (presentable : Presentable s) :
    newCipher key s = exec .loadkey (placeOperand .loadkey key s) :=
  runCommand_encode (s := placeOperand .loadkey key s) presentable .loadkey

/-- `NEWCIPHER` with a key of no legal length (R101). -/
theorem newCipher_of_bad_key {key : List Byte} {s : State} (presentable : Presentable s)
    (bad : key.length = 0 ∨ 56 < key.length) :
    newCipher key s = .next ((placeOperand .loadkey key s).raise .invalidKeyLength) := by
  have rejected : acceptsLengths .loadkey (placeOperand .loadkey key s) = false :=
    decide_eq_false fun (legal : 1 ≤ key.length ∧ key.length ≤ 56) => by omega
  obtain ⟨e, error, run⟩ := exec_of_rejected (i := .loadkey) nofun rejected
  cases error
  exact (newCipher_eq_exec presentable).trans run

/-- `NEWCIPHER` with a legal key: the schedule derived from it is committed (R100, R106). -/
theorem newCipher_of_legal_key {key : List Byte} {s : State} (presentable : Presentable s)
    (legal : 1 ≤ key.length ∧ key.length ≤ 56) :
    newCipher key s = .next (((placeOperand .loadkey key s).commitKey
      (deriveSchedule s.params.initP s.params.initS key)).complete []) := by
  rw [newCipher_eq_exec presentable, (exec_loadkey_succeeds_iff.2 ⟨legal, rfl⟩).1,
    (placeOperand_loadkey_keyIs key s).operand]
  rfl

/-- DECCBC issued with its key there: it leaves schedule, flags and IV alone, and ends with its length error or with the
plaintext. -/
theorem issue_deccbc {ct : List Byte} {s : State} (presentable : ∀ m, s.params.maxLen = some m → ct.length ≤ m)
    (key : s.keyValid = true) :
    ∃ t, issue .deccbc ct s = .next t ∧ KeepsInstance s t ∧ t.entropy = s.entropy ∧
      (ct.length % 8 ≠ 0 ∨ ct.length < 16 → t.status = 0x03#8 ∧ t.olen = 0) ∧
      (ct.length % 8 = 0 ∧ 16 ≤ ct.length → Delivers t (cbcPlaintext s.cipher ct)) := by
  have run : issue .deccbc ct s = exec .deccbc (placeOperand .deccbc ct s) :=
    runCommand_encode (s := placeOperand .deccbc ct s) presentable .deccbc
  have keyPlaced : (placeOperand .deccbc ct s).keyValid = true := key
  by_cases legal : ct.length % 8 = 0 ∧ 16 ≤ ct.length
  · have accepted : acceptsLengths .deccbc (placeOperand .deccbc ct s) = true := decide_eq_true legal
    refine ⟨(placeOperand .deccbc ct s).complete (cbcPlaintext s.cipher ct), ?_, ?_⟩
    · rw [run, exec_deccbc_eq_checks, checkInOrder_of_key fun _ => keyPlaced, checkLength_of_accepted accepted,
        (placeOperand_deccbc_inputIs ct s).operand]
      rfl
    · exact ⟨⟨rfl, rfl, rfl, rfl⟩, rfl, fun bad => by omega, fun _ => State.complete_delivers _ _⟩
  · have rejected : acceptsLengths .deccbc (placeOperand .deccbc ct s) = false := decide_eq_false legal
    obtain ⟨e, error, raised⟩ := exec_of_rejected (fun _ => keyPlaced) rejected
    cases error
    exact ⟨_, run.trans raised, ⟨rfl, rfl, rfl, rfl⟩, rfl, fun _ => ⟨rfl, rfl⟩, fun accepted => absurd accepted legal⟩

/-! ### The statement -/

/-- Settles O60: LOADKEY raises its length error and the call ends there, or it commits the key's schedule and DECCBC is
issued on it. -/
theorem foreignDecryptLoadsTheKeyAndDecrypts : Obligations.ForeignDecryptLoadsTheKeyAndDecrypts := by
  intro s key ct fits
  have presentable : Presentable s := fun m bound => (fits m bound).1
  by_cases legal : 1 ≤ key.length ∧ key.length ≤ 56
  · have loaded := newCipher_of_legal_key presentable legal
    obtain ⟨t, run, keeps, entropy, rejected, accepted⟩ := issue_deccbc (ct := ct)
      (s := ((placeOperand .loadkey key s).commitKey (deriveSchedule s.params.initP s.params.initS key)).complete [])
      (fun m bound => (fits m bound).2) rfl
    refine ⟨t, by simpa [foreignDecrypt, loaded] using run, entropy, fun bad => by omega, fun _ =>
      ⟨keeps.cipher, keeps.keyValid, keeps.ivSet, rejected, fun lengths => ?_⟩⟩
    obtain ⟨first, later⟩ := blockAt_cbcLoop_decipher (deriveSchedule s.params.initP s.params.initS key) lengths.1
      (by omega)
    exact ⟨_, length_cbcLoop_decipher _ lengths.1, first, later, accepted lengths⟩
  · have raised := newCipher_of_bad_key presentable (key := key) (by omega)
    refine ⟨(placeOperand .loadkey key s).raise .invalidKeyLength, ?_, rfl, fun _ => ⟨rfl, rfl, ⟨rfl, rfl, rfl, rfl⟩⟩,
      fun isLegal => absurd isLegal legal⟩
    simp [foreignDecrypt, raised, EngineError.code_ne_zero]

end Sys2Proof.Machine
end

section
/-! LOADKEY and its key length (spec/40_key_schedule.md R100, R101, R106): every key of 1 to 56 bytes is installed, and
every other length is an error. -/

namespace Sys2Proof.Machine

/-- Settles O31: LOADKEY commits the schedule of its key operand, which is the key the host placed. -/
theorem loadkeyInstallsTheSchedule : Obligations.LoadkeyInstallsTheSchedule := by
  intro s key isKey nonempty short
  have accepted : Config.keyMin ≤ s.klen ∧ s.klen ≤ Config.keyMax := by
    rw [isKey.length]
    exact ⟨nonempty, short⟩
  obtain ⟨run, -⟩ := exec_loadkey_succeeds_iff.2 ⟨accepted, rfl⟩
  rw [isKey.operand] at run
  exact ⟨_, run, rfl, rfl, rfl, State.complete_delivers _ [], commandsKeepTheHostsInputs .loadkey s _ run, rfl⟩

/-- Settles O32: the length check passes and the schedule is committed, or it fails and raises its error. -/
theorem loadkeyAcceptsOneToFiftySixBytes : Obligations.LoadkeyAcceptsOneToFiftySixBytes := by
  intro s
  by_cases legal : 1 ≤ s.klen ∧ s.klen ≤ 56
  · obtain ⟨run, ok⟩ := exec_loadkey_succeeds_iff.2 ⟨legal, rfl⟩
    exact ⟨_, run, rfl, fun bad => by omega, fun _ => ⟨ok, rfl⟩⟩
  · obtain ⟨e, error, run⟩ := exec_of_rejected (i := .loadkey) (s := s) nofun (decide_eq_false legal)
    cases error
    exact ⟨_, run, rfl, fun _ => ⟨rfl, State.raise_raises s _⟩, fun accepted => absurd accepted legal⟩

end Sys2Proof.Machine
end

section
/-! The key schedule as one chain (spec/40_key_schedule.md R102 to R105, R107): its 521 encipherments are numbered
through, what each one writes is said by its number, and the loops of steps 3 and 4 are stretches of the chain. Only the
start of the chain depends on the key. -/

namespace Sys2Proof.Machine

/-! ### One encipherment by its number -/

/-- Encipherment `n` of the schedule: 9 for the round keys (R104), then 128 for each table, S0 first (R105). -/
def encipherment (w : Schedule) (n : Nat) : Schedule :=
  if n < 9 then fillRoundKeys w (2 * n) else fillSbox (Fin.ofNat 4 ((n - 9) / 128)) w (2 * ((n - 9) % 128))

section
variable (w : Schedule) {n : Nat}

theorem encipherment_roundKeys (early : n < 9) : encipherment w n = fillRoundKeys w (2 * n) :=
  if_pos early

theorem encipherment_table (k : Fin 4) {j : Nat} (inTable : j < 128) :
    encipherment w (9 + 128 * k.val + j) = fillSbox k w (2 * j) := by
  have table : (9 + 128 * k.val + j - 9) / 128 = k.val := by omega
  have entry : (9 + 128 * k.val + j - 9) % 128 = j := by omega
  rw [encipherment, if_neg (by omega), table, entry, Fin.ofNat_val_eq_self]

/-- Past the round keys, an encipherment is one of those of a table. -/
theorem encipherment_late (late : 9 ≤ n) (inChain : n < 521) :
    encipherment w n = fillSbox ⟨(n - 9) / 128, by omega⟩ w (2 * ((n - 9) % 128)) := by
  have position : 9 + 128 * ((n - 9) / 128) + (n - 9) % 128 = n := by omega
  simpa only [position] using
    encipherment_table w ⟨(n - 9) / 128, by omega⟩ (j := (n - 9) % 128) (Nat.mod_lt _ (by decide))

theorem encipherment_running (n : Nat) : (encipherment w n).running = encipher w.cipher w.running := by
  unfold encipherment
  split
  · exact (fillRoundKeys_rest w _).1
  · exact (fillSbox_rest _ w _).1

theorem encipherment_getElem_p (inChain : n < 521) (i : Nat) (hi : i < 18) :
    (encipherment w n).cipher.p[i] =
      if n < 9 ∧ i = 2 * n then (encipherment w n).running.1
      else if n < 9 ∧ i = 2 * n + 1 then (encipherment w n).running.2
      else w.cipher.p[i] := by
  rw [encipherment_running]
  by_cases early : n < 9
  · simp only [encipherment_roundKeys w early, fillRoundKeys_getElem, early, true_and]
  · simp only [encipherment_late w (Nat.le_of_not_lt early) inChain, (fillSbox_rest _ w _).2, early, false_and,
      if_false]

theorem encipherment_getElem_s (inChain : n < 521) (k i : Nat) (hk : k < 4) (hi : i < 256) :
    (encipherment w n).cipher.s[k][i] =
      if 9 ≤ n ∧ k = (n - 9) / 128 ∧ i = 2 * ((n - 9) % 128) then (encipherment w n).running.1
      else if 9 ≤ n ∧ k = (n - 9) / 128 ∧ i = 2 * ((n - 9) % 128) + 1 then (encipherment w n).running.2
      else w.cipher.s[k][i] := by
  rw [encipherment_running]
  by_cases late : 9 ≤ n
  · simp only [encipherment_late w late inChain, fillSbox_getElem _ _ _ _ _ hk hi, late, true_and]
  · simp only [encipherment_roundKeys w (Nat.lt_of_not_le late), (fillRoundKeys_rest w _).2, late, false_and,
      if_false]

end

/-! ### The chain -/

/-- The schedule under construction after the first `n` encipherments. -/
def scheduleAfter (start : Schedule) : Nat → Schedule
  | 0 => start
  | n + 1 => encipherment (scheduleAfter start n) n

/-- A loop whose passes are the encipherments from `a` on is a stretch of the chain. -/
theorem foldl_eq_scheduleAfter (start : Schedule) (f : Schedule → Nat → Schedule) (a m : Nat)
    (pass : ∀ w j, j < m → f w j = encipherment w (a + j)) :
    (List.range m).foldl f (scheduleAfter start a) = scheduleAfter start (a + m) := by
  induction m with
  | zero => rfl
  | succ m ih =>
    have before := ih fun w j inside => pass w j (Nat.lt_succ_of_lt inside)
    rw [List.range_succ, List.foldl_append, before]
    exact pass _ m (Nat.lt_succ_self m)

/-- Step 3 is the first nine encipherments (R104). -/
theorem scheduleRoundKeys_eq_scheduleAfter (start : Schedule) :
    scheduleRoundKeys start = scheduleAfter start 9 :=
  foldl_eq_scheduleAfter start _ 0 9 fun w j inside => by
    rw [Nat.zero_add, encipherment_roundKeys w inside]

/-- Step 4 for table `k` is the next 128 encipherments (R105). -/
theorem scheduleTable_scheduleAfter (start : Schedule) (k : Fin 4) :
    scheduleTable k (scheduleAfter start (9 + 128 * k.val)) = scheduleAfter start (9 + 128 * k.val + 128) :=
  foldl_eq_scheduleAfter start _ (9 + 128 * k.val) 128 fun w _ inside => (encipherment_table w k inside).symm

/-- The derived schedule is the end of the chain: step 3, then step 4 for the four tables. -/
theorem deriveSchedule_eq_scheduleAfter (initP : RoundKeys) (initS : SBoxes) (key : List Byte) :
    deriveSchedule initP initS key = (scheduleAfter (scheduleStart initP initS key) 521).cipher := by
  have s0 (start : Schedule) : scheduleTable 0 (scheduleAfter start 9) = scheduleAfter start 137 :=
    scheduleTable_scheduleAfter start 0
  have s1 (start : Schedule) : scheduleTable 1 (scheduleAfter start 137) = scheduleAfter start 265 :=
    scheduleTable_scheduleAfter start 1
  have s2 (start : Schedule) : scheduleTable 2 (scheduleAfter start 265) = scheduleAfter start 393 :=
    scheduleTable_scheduleAfter start 2
  have s3 (start : Schedule) : scheduleTable 3 (scheduleAfter start 393) = scheduleAfter start 521 :=
    scheduleTable_scheduleAfter start 3
  unfold deriveSchedule
  simp only [scheduleRoundKeys_eq_scheduleAfter, List.foldl_cons, List.foldl_nil, s0, s1, s2, s3]

/-! ### The statements -/

/-- Settles O34: the chain is `scheduleAfter`, and each of its encipherments writes what its number says. -/
theorem scheduleIsAChainOfEncipherments : Obligations.ScheduleIsAChainOfEncipherments := by
  intro initP initS key
  exact ⟨fun n => (scheduleAfter (scheduleStart initP initS key) n).cipher,
    fun n => (scheduleAfter (scheduleStart initP initS key) n).running, rfl, rfl,
    fun n _ => encipherment_running _ n, fun _ inChain => encipherment_getElem_p _ inChain,
    fun _ inChain => encipherment_getElem_s _ inChain,
    (deriveSchedule_eq_scheduleAfter initP initS key).symm⟩

/-- The key enters through its 72 cycled bytes alone: keys that agree on them mix to the same round keys (R103). -/
theorem mixKey_congr (initP : RoundKeys) {a b : List Byte} (agree : ∀ j, j < 72 → keyByte a j = keyByte b j) :
    mixKey initP a = mixKey initP b := by
  apply Vector.ext
  intro i hi
  have words : keyWord a i = keyWord b i := by
    rw [keyWord, keyWord, agree _ (by omega), agree _ (by omega), agree _ (by omega), agree _ (by omega)]
  rw [getElem_mixKey, getElem_mixKey, words]

/-- Settles O35: the two chains start alike, so they end alike. -/
theorem keysWithOneCycleAreEquivalent : Obligations.KeysWithOneCycleAreEquivalent := by
  intro initP initS a b nonemptyA nonemptyB agree
  have mixed : mixKey initP a = mixKey initP b := mixKey_congr initP fun j inside => by
    rw [keyByte_eq_getElem nonemptyA, keyByte_eq_getElem nonemptyB, agree j inside]
  have start : scheduleStart initP initS a = scheduleStart initP initS b := by
    rw [scheduleStart, scheduleStart, mixed]
  rw [deriveSchedule_eq_scheduleAfter, deriveSchedule_eq_scheduleAfter, start]

end Sys2Proof.Machine
end

section
/-! The checks on the table of initial constants (spec/40_key_schedule.md R109). -/

namespace Sys2Proof.Machine

/-- Settles O36: the end words are read off; the XORs and the sum run over too many words for the elaborator to unfold,
so the kernel computes them. -/
theorem initialConstantsPassTheirChecks : Obligations.InitialConstantsPassTheirChecks := by
  refine ⟨rfl, rfl, rfl, rfl, rfl, rfl, rfl, rfl, rfl, rfl, ?xorP, ?xorS0, ?xorS1, ?xorS2, ?xorS3, ?sum⟩ <;>
  decide +kernel

end Sys2Proof.Machine
end

section
/-! The block core (spec/41_block_core.md R120 to R128): the round function by its four lanes; the eight passes of the
Feistel loop as one recurrence; and deciphering as enciphering with the round keys reversed, which runs that recurrence
backwards. -/

namespace Sys2Proof.Machine

/-! ### The round function -/

/-- The table entries are selected by the lanes of a big-endian word (R121). -/
theorem roundF_be32 (s : SBoxes) (a b c d : Byte) :
    roundF s (be32 a b c d) = ((sboxEntry s[0] a + sboxEntry s[1] b) ^^^ sboxEntry s[2] c) + sboxEntry s[3] d := by
  obtain ⟨lane0, lane1, lane2, lane3⟩ := lanes_be32 a b c d
  rw [roundF, lane0, lane1, lane2, lane3]

/-- The rule's example (R121): the first entries of the four tables, combined. -/
theorem roundF_initS_zero : roundF Config.initS 0x00000000#32 = 0x2FCFF51E#32 := by
  have entries : sboxEntry Config.initS[0] 0x00#8 = 0xD1310BA6#32 ∧ sboxEntry Config.initS[1] 0x00#8 = 0x4B7A70E9#32 ∧
      sboxEntry Config.initS[2] 0x00#8 = 0xE93D5A68#32 ∧ sboxEntry Config.initS[3] 0x00#8 = 0x3A39CE37#32 :=
    ⟨rfl, rfl, rfl, rfl⟩
  obtain ⟨entry0, entry1, entry2, entry3⟩ := entries
  calc roundF Config.initS 0x00000000#32
      = roundF Config.initS (be32 0x00#8 0x00#8 0x00#8 0x00#8) := rfl
    _ = ((0xD1310BA6#32 + 0x4B7A70E9#32) ^^^ 0xE93D5A68#32) + 0x3A39CE37#32 := by
      rw [roundF_be32, entry0, entry1, entry2, entry3]
    _ = 0x2FCFF51E#32 := rfl

/-- Settles O23: a word written from four bytes has them as its lanes, and the example is computed from four entries. -/
theorem roundFunctionCombinesFourLanes : Obligations.RoundFunctionCombinesFourLanes :=
  ⟨roundF_be32, roundF_initS_zero⟩

/-! ### The passes of Encipher -/

/-- A round key that exists is never the default of `roundKey`. -/
theorem roundKey_eq_getElem (p : RoundKeys) {i : Nat} (hi : i < 18) : roundKey p i = p[i] := by
  simp [roundKey, hi]

/-- The halves after the first `n` passes of Encipher's loop (R123). -/
def encipherPasses (c : CipherState) (lr : Word × Word) : Nat → Word × Word
  | 0 => lr
  | n + 1 => feistelPass c (2 * n + 1) (2 * n + 2) (encipherPasses c lr n)

theorem foldl_feistelPass_eq_encipherPasses (c : CipherState) (lr : Word × Word) (n : Nat) :
    (List.range n).foldl (fun lr j => feistelPass c (2 * j + 1) (2 * j + 2) lr) lr = encipherPasses c lr n := by
  induction n with
  | zero => rfl
  | succ n ih => rw [List.range_succ, List.foldl_append, ih]; rfl

/-- Encipher whitens the left half, makes eight passes, swaps the halves and whitens what was the right one (R123). -/
theorem encipher_eq_encipherPasses (c : CipherState) (lr : Word × Word) :
    encipher c lr = ((encipherPasses c (lr.1 ^^^ roundKey c.p 0, lr.2) 8).2 ^^^ roundKey c.p 17,
      (encipherPasses c (lr.1 ^^^ roundKey c.p 0, lr.2) 8).1) := by
  rw [← foldl_feistelPass_eq_encipherPasses]
  rfl

/-- One pass of the recurrence, its round keys read from the array (R122, R123). -/
theorem encipherPasses_succ (c : CipherState) (lr : Word × Word) (j : Nat) (hj : j < 8) :
    (encipherPasses c lr (j + 1)).2 =
        (encipherPasses c lr j).2 ^^^ roundF c.s (encipherPasses c lr j).1 ^^^ c.p[2 * j + 1] ∧
      (encipherPasses c lr (j + 1)).1 =
        (encipherPasses c lr j).1 ^^^ roundF c.s (encipherPasses c lr (j + 1)).2 ^^^ c.p[2 * j + 2] := by
  rw [← roundKey_eq_getElem, ← roundKey_eq_getElem]
  exact ⟨rfl, rfl⟩

/-! ### The round keys reversed -/

/-- The schedule with its round keys in reverse order and its tables kept (R124). -/
def CipherState.reverseKeys (c : CipherState) : CipherState :=
  { c with p := Vector.ofFn fun i => c.p[17 - i.val]'(by omega) }

@[simp] theorem CipherState.s_reverseKeys (c : CipherState) : c.reverseKeys.s = c.s := by
  rw [reverseKeys]

theorem CipherState.roundKey_reverseKeys (c : CipherState) {i : Nat} (hi : i < 18) :
    roundKey c.reverseKeys.p i = roundKey c.p (17 - i) := by
  rw [roundKey_eq_getElem _ hi, roundKey_eq_getElem _ (by omega)]
  simp [reverseKeys]

@[simp] theorem CipherState.reverseKeys_reverseKeys (c : CipherState) : c.reverseKeys.reverseKeys = c := by
  obtain ⟨p, s⟩ := c
  rw [reverseKeys, reverseKeys, CipherState.mk.injEq]
  refine ⟨Vector.ext fun i hi => ?_, rfl⟩
  have back : 17 - (17 - i) = i := by omega
  simp [back]

/-- A pass of Decipher is the pass of Encipher under the reversed round keys. -/
theorem feistelPass_reverseKeys (c : CipherState) {a b : Nat} (ha : a < 18) (hb : b < 18) (lr : Word × Word) :
    feistelPass c.reverseKeys a b lr = feistelPass c (17 - a) (17 - b) lr := by
  simp only [feistelPass, c.roundKey_reverseKeys ha, c.roundKey_reverseKeys hb, c.s_reverseKeys]

/-- Decipher's loop is the eight passes under the reversed round keys. -/
theorem foldl_feistelPass_eq_encipherPasses_reverseKeys (c : CipherState) (lr : Word × Word) :
    (List.range 8).foldl (fun lr j => feistelPass c (16 - 2 * j) (16 - 2 * j - 1) lr) lr =
      encipherPasses c.reverseKeys lr 8 := by
  rw [← foldl_feistelPass_eq_encipherPasses]
  refine List.foldl_ext _ _ _ fun lr j inside => ?_
  have := List.mem_range.1 inside
  rw [feistelPass_reverseKeys c (by omega) (by omega), show 17 - (2 * j + 1) = 16 - 2 * j by omega,
    show 17 - (2 * j + 2) = 16 - 2 * j - 1 by omega]

/-- Decipher whitens with the two outer round keys exchanged, around those passes (R124). -/
theorem decipher_eq_encipherPasses (c : CipherState) (lr : Word × Word) :
    decipher c lr = ((encipherPasses c.reverseKeys (lr.1 ^^^ roundKey c.p 17, lr.2) 8).2 ^^^ roundKey c.p 0,
      (encipherPasses c.reverseKeys (lr.1 ^^^ roundKey c.p 17, lr.2) 8).1) := by
  rw [← foldl_feistelPass_eq_encipherPasses_reverseKeys]
  rfl

theorem decipher_eq_encipher_reverseKeys (c : CipherState) (lr : Word × Word) :
    decipher c lr = encipher c.reverseKeys lr := by
  rw [decipher_eq_encipherPasses, encipher_eq_encipherPasses, c.roundKey_reverseKeys (by decide),
    c.roundKey_reverseKeys (by decide)]

/-- Settles O25: Decipher's passes and whitenings are those of Encipher under the reversed round keys. -/
theorem decipherIsEncipherWithKeysReversed : Obligations.DecipherIsEncipherWithKeysReversed :=
  decipher_eq_encipher_reverseKeys

/-! ### The passes undone -/

/-- A round's two words XORed a second time cancel. -/
theorem xor_xor_xor_cancel (x f k : Word) : x ^^^ f ^^^ k ^^^ f ^^^ k = x :=
  calc x ^^^ f ^^^ k ^^^ f ^^^ k
      = x ^^^ ((f ^^^ k) ^^^ (f ^^^ k)) := by simp only [BitVec.xor_assoc]
    _ = x := by rw [BitVec.xor_self, BitVec.xor_zero]

/-- A pass with its two round keys exchanged, made on the swapped halves, undoes the pass and leaves the halves
swapped. -/
theorem feistelPass_swap_feistelPass (c : CipherState) (a b : Nat) (lr : Word × Word) :
    feistelPass c b a (feistelPass c a b lr).swap = lr.swap := by
  simp only [feistelPass, Prod.fst_swap, Prod.snd_swap, xor_xor_xor_cancel]
  rfl

/-- The first `n` passes under the reversed round keys undo the last `n` of the eight passes. -/
theorem encipherPasses_reverseKeys (c : CipherState) (lr : Word × Word) (n : Nat) (hn : n ≤ 8) :
    encipherPasses c.reverseKeys (encipherPasses c lr 8).swap n = (encipherPasses c lr (8 - n)).swap := by
  induction n with
  | zero => rfl
  | succ n ih =>
    obtain ⟨m, todo⟩ : ∃ m, 8 - n = m + 1 := ⟨7 - n, by omega⟩
    have left : 8 - (n + 1) = m := by omega
    rw [encipherPasses, ih (by omega), feistelPass_reverseKeys c (by omega) (by omega), left, todo,
      show 17 - (2 * n + 1) = 2 * m + 2 by omega, show 17 - (2 * n + 2) = 2 * m + 1 by omega, encipherPasses,
      feistelPass_swap_feistelPass]

/-- Deciphering what was enciphered (R125): each whitening cancels and the passes are undone. -/
@[simp] theorem decipher_encipher (c : CipherState) (lr : Word × Word) : decipher c (encipher c lr) = lr := by
  have undone (start : Word × Word) : encipherPasses c.reverseKeys
      ((encipherPasses c start 8).2, (encipherPasses c start 8).1) 8 = (start.2, start.1) :=
    encipherPasses_reverseKeys c start 8 le_rfl
  rw [decipher_eq_encipherPasses, encipher_eq_encipherPasses]
  simp [undone]

/-- Enciphering what was deciphered is the same law under the reversed round keys (R124, R125). -/
@[simp] theorem encipher_decipher (c : CipherState) (lr : Word × Word) : encipher c (decipher c lr) = lr := by
  have law := decipher_encipher c.reverseKeys lr
  rwa [decipher_eq_encipher_reverseKeys, c.reverseKeys_reverseKeys, ← decipher_eq_encipher_reverseKeys] at law

/-- Settles O26: each law holds of every pair of words. -/
theorem decipherAndEncipherAreInverse : Obligations.DecipherAndEncipherAreInverse :=
  fun c l r => ⟨decipher_encipher c (l, r), encipher_decipher c (l, r)⟩

/-- Settles O24: the recurrence is `encipherPasses`, and Decipher is the inverse that makes Encipher a bijection. -/
theorem encipherRunsSixteenRounds : Obligations.EncipherRunsSixteenRounds := by
  constructor
  · intro c l0 r0
    refine ⟨fun n => (encipherPasses c (l0 ^^^ c.p[0], r0) n).1, fun n => (encipherPasses c (l0 ^^^ c.p[0], r0) n).2,
      rfl, rfl, ?rounds, ?ends⟩
    case rounds => exact encipherPasses_succ c _
    case ends =>
      rw [encipher_eq_encipherPasses, roundKey_eq_getElem _ (by decide), roundKey_eq_getElem _ (by decide)]
  · intro c
    exact Function.bijective_iff_has_inverse.2 ⟨decipher c, decipher_encipher c, encipher_decipher c⟩

/-! ### Blocks -/

@[simp] theorem decBlock_encBlock (c : CipherState) (b : Block) : decBlock c (encBlock c b) = b := by
  simp [encBlock, decBlock]

@[simp] theorem encBlock_decBlock (c : CipherState) (b : Block) : encBlock c (decBlock c b) = b := by
  simp [encBlock, decBlock]

/-- Settles O27: the wrappers are defined by their halves, and undo each other as the word transforms do. -/
theorem blockTransformsAreInverse : Obligations.BlockTransformsAreInverse :=
  fun c b => ⟨rfl, rfl, decBlock_encBlock c b, encBlock_decBlock c b⟩

/-! ### The commands ENCBLK and DECBLK -/

/-- A command that ends in `State.complete` delivers its result and changes nothing else (R53). -/
theorem exec_complete_delivers {i : Instr} {s : State} {out : List Byte} (run : exec i s = .next (s.complete out)) :
    ∃ t, exec i s = .next t ∧ Delivers t out ∧ KeepsInstance s t ∧ KeepsInputs s t ∧ t.entropy = s.entropy := by
  obtain ⟨keepsInstance, keepsInputs⟩ := s.complete_keeps out
  exact ⟨_, run, s.complete_delivers out, keepsInstance, keepsInputs, rfl⟩

/-- A command that transforms one block by `f` behind its checks: they pass when the key is there and the host placed a
block, and that block is the operand (R197, R54). -/
theorem exec_of_block {i : Instr} {s : State} {b : Block} (f : Block → Block)
    (checks : exec i s = checkInOrder i s (.next (s.complete (f s.blockOperand).toList)))
    (oneBlock : acceptsLengths i s = decide (s.ilen = 8)) (key : s.keyValid = true) (input : InputIs s b.toList) :
    exec i s = .next (s.complete (f b).toList) := by
  have accepted : acceptsLengths i s = true := by
    rw [oneBlock, decide_eq_true_iff, input.length, Vector.length_toList]
  rw [checks, checkInOrder_of_key fun _ => key, checkLength_of_accepted accepted, input.block]

/-- Settles O29: ENCBLK is the block command of `encBlock` under the engine's schedule. -/
theorem encblkEnciphersOneBlock : Obligations.EncblkEnciphersOneBlock :=
  fun s _ key input => exec_complete_delivers (exec_of_block (encBlock s.cipher) rfl rfl key input)

/-- Settles O30: DECBLK is the block command of `decBlock` under the engine's schedule. -/
theorem decblkDeciphersOneBlock : Obligations.DecblkDeciphersOneBlock :=
  fun s _ key input => exec_complete_delivers (exec_of_block (decBlock s.cipher) rfl rfl key input)

end Sys2Proof.Machine
end

section
/-! The padding codec (spec/42_padding.md R140 to R151): the padded length and the fill, `Unpad` as the place where the
trailing run of the final byte begins, and the commands PAD, PADIV and UNPAD as functions of their input alone. -/

namespace Sys2Proof.Machine

/-! ### The padded length -/

/-- The number of padding bytes (R142). -/
theorem paddedLength_sub (n : Nat) : paddedLength n - n = 8 - n % 8 := by
  simp only [paddedLength, Config.blockBytes]
  omega

/-- No multiple of 8 lies strictly between the length and the padded length (R142). -/
theorem paddedLength_le {n m : Nat} (whole : m % 8 = 0) (above : n < m) : paddedLength n ≤ m := by
  simp only [paddedLength, Config.blockBytes]
  omega

/-- Settles O37. -/
theorem paddingReachesTheNextMultipleOfEight : Obligations.PaddingReachesTheNextMultipleOfEight := by
  intro e slot data
  rw [length_padWithSlot, length_padBody]
  exact ⟨rfl, rfl, lt_paddedLength _, paddedLength_sub _, fun _ => paddedLength_le⟩

/-! ### The fill -/

theorem xor_fillXor_ne (b : Byte) : b ^^^ Config.fillXor ≠ b := by
  simp [Config.fillXor]

/-- The fill of data that is not empty (R143). -/
theorem fillByte_of_pos (e : Byte) {data : List Byte} (nonempty : 0 < data.length) :
    fillByte e data = data[data.length - 1] ^^^ Config.fillXor := by
  rw [fillByte, List.getLast?_eq_getElem?, List.getElem?_eq_getElem (by omega), Option.getD_some]

/-- The fill is not the last data byte, so the padding ends where the data does. -/
theorem getLast?_ne_fillByte (e : Byte) (data : List Byte) : data.getLast? ≠ some (fillByte e data) := by
  intro same
  have fill : fillByte e data = data.getLast?.getD e ^^^ Config.fillXor := rfl
  rw [same, Option.getD_some] at fill
  exact xor_fillXor_ne _ fill.symm

theorem padBody_eq (e : Byte) (data : List Byte) :
    padBody e data = data ++ List.replicate (8 - data.length % 8) (fillByte e data) := by
  rw [padBody, paddedLength_sub]

/-- Settles O38: a byte of padded data is a byte of the data or the fill. -/
theorem paddingBytesAreLastByteXorCC : Obligations.PaddingBytesAreLastByteXorCC := by
  intro e slot data i h
  refine ⟨fun inData => List.getElem_append_left inData, fun pastData nonempty => ?_, ?_, rfl⟩
  · rw [getElem_padBody_fill e data i h pastData, fillByte_of_pos e nonempty]
    exact ⟨rfl, xor_fillXor_ne _⟩
  · rintro rfl
    exact getElem_padBody_fill e [] i h (Nat.zero_le i)

/-! ### Where the trailing run begins -/

/-- Settles O39: the scan, begun with the final byte, finds it equal to itself and goes on to the front of its run. -/
theorem unpadFindsTheTrailingRun : Obligations.UnpadFindsTheTrailingRun := by
  intro buf nonempty
  have below := unpad_le_pred buf
  have final : buf.getLast?.getD 0 = buf[buf.length - 1] := by
    rw [List.getLast?_eq_getElem?, List.getElem?_eq_getElem (by omega), Option.getD_some]
  obtain ⟨-, run, stop⟩ := unpadScan_spec buf (buf.getLast?.getD 0) buf.length
  rw [final] at run stop
  refine ⟨by omega, fun i inside inRun => ?_, fun i inside before => ?_⟩
  · rw [← List.getD_eq_getElem buf 0 inside]
    exact run i (by rwa [← final]) inside
  · rw [← List.getD_eq_getElem buf 0 inside]
    exact stop i (by rwa [← final])

/-- The scan for `b` passes over a run of it. -/
theorem unpadScan_append_run (front : List Byte) (b : Byte) (count : Nat) {k : Nat} (within : k ≤ count) :
    unpadScan (front ++ List.replicate count b) b (front.length + k) =
      unpadScan (front ++ List.replicate count b) b front.length := by
  induction k with
  | zero => rfl
  | succ k ih =>
    have inRun : (front ++ List.replicate count b).getD (front.length + k) 0 = b := by
      simp [show k < count from within]
    rw [← Nat.add_assoc, unpadScan, if_pos inRun, ih (by omega)]

/-- Of a buffer that ends with a run, `Unpad` scans what stands before the run. -/
theorem unpad_append_run (front : List Byte) (b : Byte) {count : Nat} (nonempty : 0 < count) :
    unpad (front ++ List.replicate count b) = unpadScan (front ++ List.replicate count b) b front.length := by
  have final : (front ++ List.replicate count b).getLast?.getD 0 = b := by
    simp [List.getLast?_append, List.getLast?_replicate, nonempty.ne']
  rw [unpad, final, List.length_append, List.length_replicate, unpadScan_append_run front b count (Nat.le_refl count)]

/-- `Unpad` goes back to the front of a closing run at least. -/
theorem unpad_append_run_le (front : List Byte) (b : Byte) {count : Nat} (nonempty : 0 < count) :
    unpad (front ++ List.replicate count b) ≤ front.length := by
  rw [unpad_append_run front b nonempty]
  exact (unpadScan_spec _ b front.length).1

/-- `Unpad` stops at the front of a closing run exactly when no equal byte stands before it. -/
theorem unpad_append_run_eq_iff (front : List Byte) (b : Byte) {count : Nat} (nonempty : 0 < count) :
    unpad (front ++ List.replicate count b) = front.length ↔ front.getLast? ≠ some b := by
  rw [unpad_append_run front b nonempty]
  rcases List.eq_nil_or_concat' front with rfl | ⟨init, x, rfl⟩
  · simp [unpadScan]
  · have stopsAt : ((init ++ [x]) ++ List.replicate count b).getD init.length 0 = x := by simp
    have below := (unpadScan_spec ((init ++ [x]) ++ List.replicate count b) b init.length).1
    rw [List.length_append, List.length_singleton, unpadScan, stopsAt, List.getLast?_concat]
    split
    next same => exact iff_of_false (by omega) (by simp [same])
    next differs => exact iff_of_true rfl (by simp [differs])

/-! ### Round trips -/

/-- Settles O40: the padding is a run that the last data byte does not continue. -/
theorem unpadUndoesPad : Obligations.UnpadUndoesPad := by
  intro e data
  rw [padBody_eq]
  exact (unpad_append_run_eq_iff data _ (by omega)).2 (getLast?_ne_fillByte e data)

theorem padWithSlot_eq (e : Byte) (slot : Block) (data : List Byte) :
    padWithSlot e slot data =
      (slot.toList ++ data) ++ List.replicate (8 - data.length % 8) (fillByte e data) := by
  rw [padWithSlot, padBody_eq, List.append_assoc]

theorem getLast?_toList_block (slot : Block) : slot.toList.getLast? = some slot[7] := by
  rw [List.getLast?_eq_getElem?]
  simp

/-- Settles O41: data that is not empty ends before the run as it does without a slot; for empty data the slot is all
that stands before it. -/
theorem unpadUndoesPadWithSlot : Obligations.UnpadUndoesPadWithSlot := by
  refine ⟨fun e slot data nonempty => ?_, fun e slot => ?_⟩
  · have lastOfData : (slot.toList ++ data).getLast? = data.getLast? :=
      List.getLast?_append_of_ne_nil _ (List.ne_nil_of_length_pos nonempty)
    have stops := (unpad_append_run_eq_iff (slot.toList ++ data) (fillByte e data) (count := 8 - data.length % 8)
      (by omega)).2 (lastOfData.trans_ne (getLast?_ne_fillByte e data))
    rw [padWithSlot_eq, stops, List.length_append, Vector.length_toList]
  · have cut := unpad_append_run_le slot.toList (fillByte e []) (count := 8) (by decide)
    have whole := unpad_append_run_eq_iff slot.toList (fillByte e []) (count := 8) (by decide)
    rw [getLast?_toList_block, Vector.length_toList, ne_eq, Option.some_inj] at whole
    rw [padWithSlot_eq, List.append_nil]
    exact ⟨by simpa using cut, whole⟩

/-! ### The commands -/

/-- Settles O42: the codec's padding of the operand is the statement's, written out. -/
theorem padDeliversThePaddedInput : Obligations.PadDeliversThePaddedInput := by
  intro s data input
  have ends := exec_complete_delivers (i := .pad) (s := s) rfl
  rwa [input.operand, padBody_eq] at ends

/-- Settles O43: PAD's result behind the reserved block. -/
theorem padivDeliversASlotAndThePaddedInput : Obligations.PadivDeliversASlotAndThePaddedInput := by
  intro s data input
  obtain ⟨t, ends⟩ := exec_complete_delivers (i := .padiv) (s := s) rfl
  rw [input.operand, padWithSlot, padBody_eq] at ends
  exact ⟨t, _, ends⟩

/-- An input of at least one byte passes UNPAD's length check (R149). -/
theorem exec_unpad_of_pos {s : State} (nonempty : 0 < s.ilen) :
    exec .unpad s = .next (s.complete (s.inputOperand.take (unpad s.inputOperand))) :=
  if_pos (bne_iff_ne.2 nonempty.ne')

/-- Settles O44: the length check passes, and the operand is the input. -/
theorem unpadDeliversTheCutInput : Obligations.UnpadDeliversTheCutInput := by
  intro s buf input nonempty
  have ends := exec_complete_delivers (exec_unpad_of_pos (input.length ▸ nonempty))
  rwa [input.operand] at ends

/-! ### Independence of the engine's state -/

/-- The engine with another `CipherState`, other flags, another IV and other entropy answers (R140). -/
def State.withInstance (c : CipherState) (kv : Bool) (iv : Block) (iset : Bool) (ans : List EntropyAnswer)
    (s : State) : State :=
  { s with cipher := c, keyValid := kv, iv := iv, ivSet := iset, entropy := ans }

/-- PAD, PADIV and UNPAD. -/
def IsPaddingCommand (i : Instr) : Prop :=
  i = .pad ∨ i = .padiv ∨ i = .unpad

section
variable (c : CipherState) (kv : Bool) (iv : Block) (iset : Bool) (ans : List EntropyAnswer) (s : State)

theorem raise_withInstance (e : EngineError) :
    (s.withInstance c kv iv iset ans).raise e = (s.raise e).withInstance c kv iv iset ans := rfl

theorem complete_withInstance (out : List Byte) :
    (s.withInstance c kv iv iset ans).complete out = (s.complete out).withInstance c kv iv iset ans := rfl

/-- The operand of a padding command, its length check and its slot depend on none of these. -/
theorem exec_withInstance {i : Instr} (padding : IsPaddingCommand i) :
    exec i (s.withInstance c kv iv iset ans) = mapNext (State.withInstance c kv iv iset ans) (exec i s) := by
  rcases padding with rfl | rfl | rfl
  · exact congrArg Host.Outcome.next (complete_withInstance c kv iv iset ans s _)
  · exact congrArg Host.Outcome.next (complete_withInstance c kv iv iset ans s _)
  · exact requireLength_map (raise_withInstance c kv iv iset ans s) rfl

end

/-- A padding command raises `InvalidOperandLength` or completes, on the state as it is (R202). -/
theorem exec_padding_next {i : Instr} {s t : State} (padding : IsPaddingCommand i) (run : exec i s = .next t) :
    t = s.raise .invalidOperandLength ∨ ∃ out, t = s.complete out := by
  rcases padding with rfl | rfl | rfl
  · exact .inr ⟨_, (Host.Outcome.next.inj run).symm⟩
  · exact .inr ⟨_, (Host.Outcome.next.inj run).symm⟩
  · rcases requireLength_next.1 run with ⟨-, ends⟩ | ⟨-, ends⟩
    · exact .inr ⟨_, (Host.Outcome.next.inj ends).symm⟩
    · exact .inl ends

/-- Settles O21: the command ends on the state as it is, and commutes with replacing what R140 names. -/
theorem paddingCommandsReadNoEngineState : Obligations.PaddingCommandsReadNoEngineState := by
  intro i s t c kv iset iv ans padding run
  have commutes : exec i (s.withInstance c kv iv iset ans) = .next (t.withInstance c kv iv iset ans) := by
    rw [exec_withInstance c kv iv iset ans s padding, run]
    rfl
  rcases exec_padding_next padding run with rfl | ⟨out, rfl⟩
  · exact ⟨(s.raise_raises _).keepsInstance, rfl, (by decide : EngineError.invalidOperandLength.code ≠ _), commutes⟩
  · exact ⟨(s.complete_keeps out).1, rfl, EngineError.noKey.code_ne_zero.symm, commutes⟩

end Sys2Proof.Machine
end

section
/-! ECB mode (spec/43_ecb.md R160 to R165): the two block loops undo each other, ENCECB's result is a function of the
schedule, of `EMPTY_LAST` and of the data, and DECECB gives the data back. -/

namespace Sys2Proof.Machine

/-! ### Whole blocks -/

theorem padBody_whole (e : Byte) (data : List Byte) : (padBody e data).length % 8 = 0 := by
  rw [length_padBody, paddedLength_mod]

/-- The number of blocks of padded data (R142, R161). -/
theorem length_padBody_div (e : Byte) (data : List Byte) : (padBody e data).length / 8 = data.length / 8 + 1 := by
  rw [length_padBody]
  exact Nat.mul_div_cancel_left _ (by decide)

/-- A block that lies in the front part of a byte sequence is that part's own. -/
theorem blockAt_append_left (front rest : List Byte) {k : Nat} (inside : k < front.length / 8) :
    blockAt (front ++ rest) k = blockAt front k := by
  ext i hi
  rw [getElem_blockAt _ _ _ hi, getElem_blockAt _ _ _ hi, List.getD_append _ _ _ _ (by omega)]

/-- Padding leaves the whole blocks of the data as they are (R141). -/
theorem blockAt_padBody (e : Byte) (data : List Byte) {k : Nat} (inside : k < data.length / 8) :
    blockAt (padBody e data) k = blockAt data k :=
  blockAt_append_left data _ inside

/-- An ECB loop undoes another when its transform undoes the other's (R161). -/
theorem ecbLoop_ecbLoop {f g : Block → Block} (undoes : ∀ b, g (f b) = b) {l : List Byte}
    (whole : l.length % 8 = 0) : ecbLoop g (ecbLoop f l) = l := by
  have identity : g ∘ f = id := funext undoes
  rw [ecbLoop, ecbLoop, blocksOf_bytesOf, List.map_map, identity, List.map_id, bytesOf_blocksOf l whole]

/-! ### The results of the two commands -/

/-- What ENCECB delivers (R160, R161). -/
def ecbCiphertext (c : CipherState) (e : Byte) (data : List Byte) : List Byte :=
  ecbLoop (encBlock c) (padBody e data)

/-- What DECECB delivers (R163). -/
def ecbPlaintext (c : CipherState) (ct : List Byte) : List Byte :=
  let wbuf := ecbLoop (decBlock c) ct
  wbuf.take (unpad wbuf)

section
variable (c : CipherState) (e : Byte) (data : List Byte)

theorem length_ecbCiphertext : (ecbCiphertext c e data).length = paddedLength data.length := by
  rw [ecbCiphertext, length_ecbLoop _ _ (padBody_whole e data), length_padBody]

theorem blockAt_ecbCiphertext {k : Nat} (inside : k < data.length / 8 + 1) :
    blockAt (ecbCiphertext c e data) k = encBlock c (blockAt (padBody e data) k) :=
  blockAt_ecbLoop _ _ (padBody_whole e data) k (by rwa [length_padBody_div])

/-- The deciphered ciphertext is the padded data, and the padding ends where the data does (R150, R165). -/
theorem ecbPlaintext_ecbCiphertext : ecbPlaintext c (ecbCiphertext c e data) = data := by
  have deciphered : ecbLoop (decBlock c) (ecbCiphertext c e data) = padBody e data :=
    ecbLoop_ecbLoop (decBlock_encBlock c) (padBody_whole e data)
  rw [ecbPlaintext, deciphered, unpadUndoesPad e data, padBody, List.take_left]

end

/-! ### The commands -/

theorem exec_dececb_eq_checks (s : State) :
    exec .dececb s = checkInOrder .dececb s (.next (s.complete (ecbPlaintext s.cipher s.inputOperand))) :=
  congrArg (requireKey s) (requireLength_eq_checkLength rfl (ecbLengthOk_agrees s))

section
variable {s : State} (key : s.keyValid = true)
include key

/-- ENCECB has no check but the key's (R160). -/
theorem exec_encecb_of_key {data : List Byte} (input : InputIs s data) :
    exec .encecb s = .next (s.complete (ecbCiphertext s.cipher s.params.emptyLast data)) := by
  rw [← input.operand]
  exact requireKey_of_key key _

/-- A positive multiple of 8 passes DECECB's length check (R164). -/
theorem exec_dececb_of_accepted (whole : s.ilen % 8 = 0) (nonempty : s.ilen ≠ 0) :
    exec .dececb s = .next (s.complete (ecbPlaintext s.cipher s.inputOperand)) := by
  have accepted : acceptsLengths .dececb s = true := decide_eq_true ⟨whole, nonempty⟩
  rw [exec_dececb_eq_checks, checkInOrder_of_key fun _ => key, checkLength_of_accepted accepted]

/-- Every other length is DECECB's length error (R164). -/
theorem exec_dececb_of_rejected (rejected : ¬(s.ilen % 8 = 0 ∧ s.ilen ≠ 0)) :
    exec .dececb s = .next (s.raise .invalidCiphertextLength) := by
  obtain ⟨e, error, run⟩ := exec_of_rejected (i := .dececb) (fun _ => key) (decide_eq_false rejected)
  cases error
  exact run

end

/-! ### The statements -/

/-- Settles O45: ENCECB completes with the enciphered blocks of the padded operand. -/
theorem encecbEnciphersEveryBlock : Obligations.EncecbEnciphersEveryBlock := by
  intro s data key input
  obtain ⟨t, run, delivers, keeps⟩ := exec_complete_delivers (exec_encecb_of_key key input)
  exact ⟨t, _, run, delivers, length_ecbCiphertext _ _ data, fun _ => blockAt_ecbCiphertext _ _ data, keeps⟩

/-- Settles O46: the length check passes, and the loop transforms every block of the operand on its own. -/
theorem dececbDeciphersAndUnpads : Obligations.DececbDeciphersAndUnpads := by
  intro s ct key input whole nonempty
  have accepted := exec_dececb_of_accepted key (by rwa [input.length]) (by rw [input.length]; exact nonempty.ne')
  rw [input.operand] at accepted
  obtain ⟨t, run, delivers, keeps⟩ := exec_complete_delivers accepted
  exact ⟨t, _, run, length_ecbLoop _ ct whole, blockAt_ecbLoop _ ct whole, delivers, keeps⟩

/-- Settles O47: the length check passes and the command completes, or it fails and raises its error. -/
theorem dececbAcceptsPositiveMultiplesOfEight : Obligations.DececbAcceptsPositiveMultiplesOfEight := by
  intro s key
  by_cases legal : s.ilen % 8 = 0 ∧ s.ilen ≠ 0
  · exact ⟨_, exec_dececb_of_accepted key legal.1 legal.2, fun bad => by omega, fun _ => rfl⟩
  · exact ⟨_, exec_dececb_of_rejected key legal, fun _ => ⟨rfl, s.raise_raises _⟩, fun accepted => by omega⟩

/-- Settles O48: the schedule that LOADKEY commits is still the engine's at DECECB, the ciphertext has a length DECECB
accepts, and its plaintext is the data. -/
theorem ecbRoundTripReturnsTheData : Obligations.EcbRoundTripReturnsTheData := by
  intro s0 key data isKey nonempty short
  obtain ⟨s1, load, -, loaded, -, delivers, -⟩ := loadkeyInstallsTheSchedule s0 key isKey nonempty short
  refine ⟨s1, load, delivers.status, fun s2 keeps2 input2 => ?_⟩
  have key2 : s2.keyValid = true := keeps2.keyValid.trans loaded
  refine ⟨_, exec_encecb_of_key key2 input2, rfl, fun s4 keeps4 input4 => ?_⟩
  have key4 : s4.keyValid = true := keeps4.keyValid.trans key2
  have cipher4 : s4.cipher = s2.cipher := keeps4.cipher
  rw [State.result_complete] at input4
  have ilen4 : s4.ilen = paddedLength data.length := input4.length.trans (length_ecbCiphertext _ _ data)
  have whole : s4.ilen % 8 = 0 := ilen4 ▸ paddedLength_mod data.length
  have positive : s4.ilen ≠ 0 := ilen4 ▸ Nat.ne_zero_of_lt (lt_paddedLength data.length)
  have plaintext : ecbPlaintext s4.cipher s4.inputOperand = data := by
    rw [input4.operand, cipher4, ecbPlaintext_ecbCiphertext]
  exact ⟨_, exec_dececb_of_accepted key4 whole positive, plaintext ▸ s4.complete_delivers _⟩

/-- Settles O49: both results are the same ciphertext of the data, and block k of it depends on block k of the data
alone. -/
theorem ecbIsDeterministicBlockByBlock : Obligations.EcbIsDeterministicBlockByBlock := by
  intro s u data keyS keyU sameCipher sameFill inputS inputU
  refine ⟨_, _, exec_encecb_of_key keyS inputS, exec_encecb_of_key keyU inputU, ?_, rfl, fun j k hj hk equal => ?_⟩
  · rw [State.result_complete, State.result_complete, sameCipher, sameFill]
  · rw [State.result_complete, blockAt_ecbCiphertext _ _ _ (by omega), blockAt_ecbCiphertext _ _ _ (by omega),
      blockAt_padBody _ _ hj, blockAt_padBody _ _ hk, equal]

end Sys2Proof.Machine
end

section
/-! CBC mode and the IV slot (spec/44_cbc.md R170 to R187): XOR of blocks can be cancelled, so the un-chaining undoes
the chaining and an altered block shows in two un-chained blocks; ENCCBC's result is a function of the schedule, of
`EMPTY_LAST`, of the IV and of the data; and what SETIV, ENCCBC and DECCBC answer. -/

namespace Sys2Proof.Machine

/-! ### XOR of blocks -/

@[simp] theorem xor8_xor8_cancel_right (x y : Block) : xor8 (xor8 x y) y = x := by
  refine Vector.ext fun i hi => ?_
  rw [getElem_xor8 _ _ i hi, getElem_xor8 _ _ i hi, BitVec.xor_assoc, BitVec.xor_self, BitVec.xor_zero]

theorem xor8_comm (x y : Block) : xor8 x y = xor8 y x := by
  refine Vector.ext fun i hi => ?_
  rw [getElem_xor8 _ _ i hi, getElem_xor8 _ _ i hi, BitVec.xor_comm]

theorem xor8_left_inj {x y z : Block} : xor8 x z = xor8 y z ↔ x = y := by
  refine ⟨fun same => ?_, fun same => same ▸ rfl⟩
  rw [← xor8_xor8_cancel_right x z, same, xor8_xor8_cancel_right]

theorem xor8_right_inj {x y z : Block} : xor8 z x = xor8 z y ↔ x = y := by
  rw [xor8_comm z x, xor8_comm z y, xor8_left_inj]

/-- What two blocks have in common cancels when they are compared bit by bit. -/
theorem xor8_xor8_xor8_cancel (z x y : Block) : xor8 (xor8 z x) (xor8 z y) = xor8 x y := by
  refine Vector.ext fun i hi => ?_
  simp only [getElem_xor8 _ _ i hi]
  rw [BitVec.xor_comm z[i] x[i], BitVec.xor_assoc, ← BitVec.xor_assoc z[i], BitVec.xor_self, BitVec.zero_xor]

theorem decBlock_inj {c : CipherState} {x y : Block} : decBlock c x = decBlock c y ↔ x = y :=
  (Function.LeftInverse.injective (encBlock_decBlock c)).eq_iff

/-! ### The two chains -/

/-- The un-chaining undoes the chaining from the same block on (R177, R183). -/
theorem cbcDecipher_cbcEncipher (c : CipherState) (iv : Block) (ms : List Block) :
    cbcDecipher c iv (cbcEncipher c iv ms) = ms := by
  induction ms generalizing iv with
  | nil => rfl
  | cons m ms ih => rw [cbcEncipher, cbcDecipher, ih, decBlock_encBlock, xor8_xor8_cancel_right]

/-- DECCBC's loop undoes ENCCBC's on whole blocks (R177, R182). -/
theorem cbcLoop_decipher_encipher (c : CipherState) {wbuf : List Byte} (whole : wbuf.length % 8 = 0) :
    cbcLoop (cbcDecipher c) (cbcLoop (cbcEncipher c) wbuf) = wbuf := by
  have together := bytesOf_blocksOf wbuf whole
  cases blocks : blocksOf wbuf with
  | nil => simpa [cbcLoop, blocks] using together
  | cons iv rest =>
    have chained : cbcLoop (cbcEncipher c) wbuf = bytesOf (iv :: cbcEncipher c iv rest) := by simp [cbcLoop, blocks]
    rw [chained, bytesOf_cons, cbcLoop_block_append, blocksOf_bytesOf, cbcDecipher_cbcEncipher, ← bytesOf_cons,
      ← blocks, together]

/-- When at most one of the two ciphertext blocks behind an un-chained block is altered, the un-chained block changes
exactly when one is. -/
theorem unchained_ne_iff (c : CipherState) {x x' y y' : Block} (oneSame : x = x' ∨ y = y') :
    xor8 (decBlock c x) y ≠ xor8 (decBlock c x') y' ↔ x ≠ x' ∨ y ≠ y' := by
  rcases oneSame with rfl | rfl
  · simp [xor8_right_inj]
  · simp [xor8_left_inj, decBlock_inj]

/-! ### ENCCBC's result -/

/-- What ENCCBC delivers once its IV is known (R176, R177). -/
def cbcCiphertext (c : CipherState) (e : Byte) (iv : Block) (data : List Byte) : List Byte :=
  cbcLoop (cbcEncipher c) (padWithSlot e iv data)

/-- The IV takes the reserved block's place, so it does not matter what the reserved block held (R144, R176). -/
theorem embedIv_padWithSlot (e : Byte) (iv slot : Block) (data : List Byte) :
    embedIv iv (padWithSlot e slot data) = padWithSlot e iv data := by
  rw [embedIv, padWithSlot, List.drop_left' (Vector.length_toList ..), padWithSlot]

section
variable (c : CipherState) (e : Byte) (iv : Block) (data : List Byte)

theorem padWithSlot_whole : (padWithSlot e iv data).length % 8 = 0 := by
  have := paddedLength_mod data.length
  rw [length_padWithSlot]
  omega

theorem cbcCiphertext_eq_bytesOf :
    cbcCiphertext c e iv data = bytesOf (iv :: cbcEncipher c iv (blocksOf (padBody e data))) :=
  cbcLoop_block_append _ iv _

theorem length_cbcCiphertext : (cbcCiphertext c e iv data).length = paddedLength data.length + 8 := by
  rw [cbcCiphertext, length_cbcLoop (length_cbcEncipher c) (padWithSlot_whole e iv data), length_padWithSlot]

theorem take_cbcCiphertext : (cbcCiphertext c e iv data).take 8 = iv.toList := by
  rw [cbcCiphertext_eq_bytesOf, bytesOf_cons, List.take_left' (Vector.length_toList ..)]

theorem blockAt_cbcCiphertext_zero : blockAt (cbcCiphertext c e iv data) 0 = iv := by
  rw [cbcCiphertext_eq_bytesOf, bytesOf_cons, blockAt_block_append_zero]

/-- A block of the result is chained to the one before it (R177). -/
theorem blockAt_cbcCiphertext_succ {k : Nat} (inside : k < data.length / 8 + 1) :
    blockAt (cbcCiphertext c e iv data) (k + 1) =
      encBlock c (xor8 (blockAt (padBody e data) k) (blockAt (cbcCiphertext c e iv data) k)) := by
  have whole := padBody_whole e data
  rw [← length_padBody_div e data] at inside
  rw [blockAt_eq_getElem_blocksOf _ whole k inside, cbcCiphertext_eq_bytesOf]
  exact blockAt_cbcEncipher c iv _ k (by rwa [length_blocksOf _ whole])

/-- The padding behind an IV block is cut where the data ends. For empty data the scan may run on into the IV block, and
the boundary is held at 8 (R151, R184). -/
theorem max_unpad_padWithSlot : max (unpad (padWithSlot e iv data)) 8 = 8 + data.length := by
  rcases List.eq_nil_or_concat data with rfl | ⟨front, last, rfl⟩
  · exact max_eq_right (unpadUndoesPadWithSlot.2 e iv).1
  · rw [unpadUndoesPadWithSlot.1 e iv _ (by simp)]
    exact max_eq_left (Nat.le_add_right 8 _)

/-- The un-chained ciphertext is the padded data behind the IV block, and both are cut off (R185). -/
theorem cbcPlaintext_cbcCiphertext : cbcPlaintext c (cbcCiphertext c e iv data) = data := by
  have unchained : cbcLoop (cbcDecipher c) (cbcCiphertext c e iv data) = padWithSlot e iv data :=
    cbcLoop_decipher_encipher c (padWithSlot_whole e iv data)
  have slotLength : iv.toList.length = 8 := Vector.length_toList ..
  rw [cbcPlaintext, unchained, max_unpad_padWithSlot, ← List.take_drop, padWithSlot, List.drop_left' slotLength,
    padBody, List.take_left]

end

/-! ### The commands -/

/-- The state ENCCBC leaves when its IV is `iv` and the answers still to come are then `answers` (R173, R175, R178). -/
def State.encryptedCbc (s : State) (iv : Block) (data : List Byte) (answers : List EntropyAnswer) : State :=
  ((s.setAnswers answers).consumeIv iv).complete (cbcCiphertext s.cipher s.params.emptyLast iv data)

theorem State.encryptedCbc_result (s : State) (iv : Block) (data : List Byte) (answers : List EntropyAnswer) :
    (s.encryptedCbc iv data answers).result = cbcCiphertext s.cipher s.params.emptyLast iv data :=
  State.result_complete _ _

/-- The slot ENCCBC reserves does not show in what it leaves. -/
theorem encryptCbc_setAnswers (s : State) (iv : Block) (answers : List EntropyAnswer) :
    encryptCbc (s.setAnswers answers) iv = s.encryptedCbc iv s.inputOperand answers :=
  congrArg (fun wbuf => ((s.setAnswers answers).consumeIv iv).complete (cbcLoop (cbcEncipher s.cipher) wbuf))
    (embedIv_padWithSlot _ iv _ _)

section
variable {s : State} (key : s.keyValid = true)
include key

theorem exec_setiv_of_block {b : Block} (input : InputIs s b.toList) :
    exec .setiv s = .next ((s.storeIv b).complete []) := by
  have checks : exec .setiv s = checkInOrder .setiv s (.next ((s.storeIv s.blockOperand).complete [])) := rfl
  have accepted : acceptsLengths .setiv s = true :=
    decide_eq_true (input.length.trans (Vector.length_toList ..))
  rw [checks, checkInOrder_of_key fun _ => key, checkLength_of_accepted accepted, input.block]

/-- With a set IV ENCCBC asks the entropy source for nothing (R174). -/
theorem exec_enccbc_of_set_input {data : List Byte} (set : s.ivSet = true) (input : InputIs s data) :
    exec .enccbc s = .next (s.encryptedCbc s.iv data s.entropy) := by
  rw [exec_enccbc_of_set key set, ← input.operand]
  exact congrArg _ (encryptCbc_setAnswers s s.iv s.entropy)

/-- Without a set IV ENCCBC takes the bytes drawn, and the answer is used up (R175). -/
theorem exec_enccbc_of_draw_input {iv : Block} {data : List Byte} (unset : s.ivSet = false)
    (drawn : drawnBytes s.entropyAnswer = some iv) (input : InputIs s data) :
    exec .enccbc s = .next (s.encryptedCbc iv data s.entropy.tail) := by
  rw [exec_enccbc_of_draw key unset drawn, ← input.operand]
  exact congrArg _ (encryptCbc_setAnswers s iv s.entropy.tail)

/-- With an IV set or drawn ENCCBC succeeds (R173 to R175). -/
theorem exec_enccbc_of_iv {data : List Byte} (available : s.ivSet = true ∨ drawnBytes s.entropyAnswer ≠ none)
    (input : InputIs s data) : ∃ iv answers, exec .enccbc s = .next (s.encryptedCbc iv data answers) := by
  cases set : s.ivSet with
  | true => exact ⟨_, _, exec_enccbc_of_set_input key set input⟩
  | false =>
    obtain ⟨iv, drawn⟩ := Option.ne_none_iff_exists'.1 (available.resolve_left (by simp [set]))
    exact ⟨_, _, exec_enccbc_of_draw_input key set drawn input⟩

/-- A multiple of 8 from 16 on passes DECCBC's length check (R181). -/
theorem exec_deccbc_of_accepted (whole : s.ilen % 8 = 0) (twoBlocks : 16 ≤ s.ilen) :
    exec .deccbc s = .next (s.complete (cbcPlaintext s.cipher s.inputOperand)) := by
  have accepted : acceptsLengths .deccbc s = true := decide_eq_true ⟨whole, twoBlocks⟩
  rw [exec_deccbc_eq_checks, checkInOrder_of_key fun _ => key, checkLength_of_accepted accepted]

/-- Every other length is DECCBC's length error (R181). -/
theorem exec_deccbc_of_rejected (rejected : ¬(s.ilen % 8 = 0 ∧ 16 ≤ s.ilen)) :
    exec .deccbc s = .next (s.raise .invalidCiphertextLength) := by
  obtain ⟨e, error, run⟩ := exec_of_rejected (i := .deccbc) (fun _ => key) (decide_eq_false rejected)
  cases error
  exact run

end

/-! ### The statements -/

/-- Settles O50: the length check passes, and the block stored is the operand. -/
theorem setivStoresTheIv : Obligations.SetivStoresTheIv := by
  intro s b key input
  have run := exec_setiv_of_block key input
  exact ⟨_, run, rfl, rfl, State.complete_delivers _ [], rfl, key, commandsKeepTheHostsInputs .setiv s _ run, rfl⟩

/-- Settles O51: ENCCBC completes with the ciphertext under the set IV. -/
theorem enccbcChainsFromTheSetIv : Obligations.EnccbcChainsFromTheSetIv := by
  intro s data key set input
  have run := exec_enccbc_of_set_input key set input
  exact ⟨_, _, run, State.complete_delivers _ _, length_cbcCiphertext _ _ _ data, blockAt_cbcCiphertext_zero _ _ _ data,
    fun _ => blockAt_cbcCiphertext_succ _ _ _ data, rfl, rfl, rfl, key, commandsKeepTheHostsInputs .enccbc s _ run, rfl⟩

/-- Settles O52: ENCCBC completes with the ciphertext under the IV drawn. -/
theorem enccbcChainsFromTheDrawnIv : Obligations.EnccbcChainsFromTheDrawnIv := by
  intro s data iv key unset drawn input
  have run := exec_enccbc_of_draw_input key unset drawn input
  exact ⟨_, _, run, State.complete_delivers _ _, length_cbcCiphertext _ _ _ data, blockAt_cbcCiphertext_zero _ _ _ data,
    fun _ => blockAt_cbcCiphertext_succ _ _ _ data, rfl, rfl, rfl, key, commandsKeepTheHostsInputs .enccbc s _ run, rfl⟩

/-- Settles O53: a failure and a short read give no bytes. -/
theorem enccbcFailsWithoutEntropy : Obligations.EnccbcFailsWithoutEntropy := by
  intro s key unset noEntropy
  have noBytes : drawnBytes s.entropyAnswer = none := by
    rcases noEntropy with failed | ⟨n, short⟩
    · rw [failed, drawnBytes]
    · rw [short, drawnBytes]
  exact ⟨_, exec_enccbc_of_no_draw key unset noBytes, rfl, s.dropAnswer_raise_raises _, rfl⟩

/-- Settles O54: the result is the ciphertext under the IV drawn or set, which is its first block. -/
theorem enccbcResultFollowsTheDraw : Obligations.EnccbcResultFollowsTheDraw := by
  constructor
  · intro s u data a b keyS keyU unsetS unsetU sameCipher sameFill inputS inputU drawnS drawnU
    refine ⟨_, _, exec_enccbc_of_draw_input keyS unsetS drawnS inputS,
      exec_enccbc_of_draw_input keyU unsetU drawnU inputU, fun sameDraw => ?_, fun otherDraw sameFront => ?_⟩
    · rw [State.encryptedCbc_result, State.encryptedCbc_result, sameCipher, sameFill, sameDraw]
    · rw [State.encryptedCbc_result, State.encryptedCbc_result, take_cbcCiphertext, take_cbcCiphertext] at sameFront
      exact otherDraw (Vector.toList_inj.1 sameFront)
  · intro s u data keyS keyU setS setU sameCipher sameIv sameFill inputS inputU
    refine ⟨_, _, exec_enccbc_of_set_input keyS setS inputS, exec_enccbc_of_set_input keyU setU inputU, ?_⟩
    rw [State.encryptedCbc_result, State.encryptedCbc_result, sameCipher, sameFill, sameIv]

/-- Settles O55: a SETIV that succeeds leaves a key and a set IV, which ENCCBC takes and LOADKEY discards. -/
theorem aSetIvServesOneEnccbc : Obligations.ASetIvServesOneEnccbc := by
  intro s t run ok
  have stored := exec_instanceEffect run
  have setT : t.ivSet = true := stored.ivSet_iff.2 (.inl ⟨rfl, ok⟩)
  have keyT : t.keyValid = true := by
    cases stored with
    | kept quiet => cases quiet ok
    | loadkey cmd => cases cmd
    | setiv _ _ _ keyValid => exact keyValid
    | enccbc cmd => cases cmd
  refine ⟨fun u keeps => ?_, fun u v _ load loaded => ?_⟩
  · have input : InputIs u u.inputOperand := ⟨(length_inputOperand u).symm, fun i _ => by simp [State.inputOperand]⟩
    refine ⟨_, exec_enccbc_of_set_input (keeps.keyValid.trans keyT) (keeps.ivSet.trans setT) input, rfl, ?_, rfl⟩
    rw [State.encryptedCbc_result, take_cbcCiphertext, keeps.iv]
  · rw [(exec_loadkey_succeeds_iff.1 ⟨load, loaded⟩).2]
    rfl

/-- Settles O56: the length check passes, and the loop un-chains the operand. -/
theorem deccbcUnchainsAndUnpads : Obligations.DeccbcUnchainsAndUnpads := by
  intro s ct key input whole twoBlocks
  have accepted := exec_deccbc_of_accepted key (by rwa [input.length]) (by rwa [input.length])
  rw [input.operand] at accepted
  obtain ⟨t, run, delivers, keeps⟩ := exec_complete_delivers accepted
  obtain ⟨first, later⟩ := blockAt_cbcLoop_decipher s.cipher whole (by omega)
  exact ⟨t, _, run, length_cbcLoop_decipher _ whole, first, later, delivers, keeps⟩

/-- Settles O57: the length check passes and the command completes, or it fails and raises its error. -/
theorem deccbcAcceptsMultiplesOfEightFromSixteen : Obligations.DeccbcAcceptsMultiplesOfEightFromSixteen := by
  intro s key
  by_cases legal : s.ilen % 8 = 0 ∧ 16 ≤ s.ilen
  · exact ⟨_, exec_deccbc_of_accepted key legal.1 legal.2, fun bad => by omega, fun _ => rfl⟩
  · exact ⟨_, exec_deccbc_of_rejected key legal, fun _ => ⟨rfl, s.raise_raises _⟩, fun accepted => by omega⟩

/-- Settles O58: the schedule that LOADKEY commits is still the engine's at DECCBC, the ciphertext has a length DECCBC
accepts, and its plaintext is the data, whichever IV it begins with. -/
theorem cbcRoundTripReturnsTheData : Obligations.CbcRoundTripReturnsTheData := by
  intro s0 key data isKey nonempty short
  obtain ⟨s1, load, -, loaded, -, delivers, -⟩ := loadkeyInstallsTheSchedule s0 key isKey nonempty short
  refine ⟨s1, load, delivers.status, fun s2 _ keeps2 input2 available => ?_⟩
  have key2 : s2.keyValid = true := keeps2.trans loaded
  obtain ⟨iv, answers, run⟩ := exec_enccbc_of_iv key2 available input2
  refine ⟨_, run, rfl, fun s4 keeps4 input4 => ?_⟩
  have key4 : s4.keyValid = true := keeps4.keyValid.trans key2
  have cipher4 : s4.cipher = s2.cipher := keeps4.cipher
  rw [State.encryptedCbc_result] at input4
  have ilen4 : s4.ilen = paddedLength data.length + 8 := input4.length.trans (length_cbcCiphertext _ _ _ data)
  have wholeBlocks := paddedLength_mod data.length
  have above := lt_paddedLength data.length
  have plaintext : cbcPlaintext s4.cipher s4.inputOperand = data := by
    rw [input4.operand, cipher4, cbcPlaintext_cbcCiphertext]
  exact ⟨_, exec_deccbc_of_accepted key4 (by omega) (by omega), plaintext ▸ s4.complete_delivers _⟩

/-- Settles O59: DECCBC un-chains both ciphertexts, and of the two ciphertext blocks behind an un-chained block only
block j can be altered. -/
theorem cbcErrorsPropagateToTwoBlocks : Obligations.CbcErrorsPropagateToTwoBlocks := by
  intro s u a b j keyS keyU sameCipher inputS inputU sameLength whole twoBlocks _ altered others
  obtain ⟨t, wa, runS, lengthA, firstA, laterA, deliversS, -⟩ :=
    deccbcUnchainsAndUnpads s a keyS inputS whole twoBlocks
  obtain ⟨v, wb, runU, lengthB, firstB, laterB, deliversU, -⟩ :=
    deccbcUnchainsAndUnpads u b keyU inputU (sameLength ▸ whole) (sameLength ▸ twoBlocks)
  rw [← sameLength] at laterB
  have differs_iff (k : Nat) : blockAt a k ≠ blockAt b k ↔ k = j :=
    ⟨fun differ => by_contra fun other => differ (others k other), fun same => same ▸ altered⟩
  refine ⟨t, v, wa, wb, runS, runU, lengthA, lengthB, firstA, firstB, fun k inside => ⟨laterA k inside, laterB k inside⟩,
    deliversS, deliversU, fun k positive inside => ?_, fun isIv => ?_⟩
  · obtain ⟨i, rfl⟩ := Nat.exists_eq_succ_of_ne_zero (Nat.one_le_iff_ne_zero.1 positive)
    have oneSame : blockAt a (i + 1) = blockAt b (i + 1) ∨ blockAt a i = blockAt b i := by
      by_cases isJ : i = j
      · exact .inl (others (i + 1) (by omega))
      · exact .inr (others i isJ)
    rw [laterA i inside, laterB i inside, ← sameCipher, unchained_ne_iff _ oneSame, differs_iff, differs_iff,
      Nat.succ_eq_add_one, Nat.add_right_cancel_iff, eq_comm (a := i)]
  · subst isIv
    rw [laterA 0 (by omega), laterB 0 (by omega), ← sameCipher, others 1 (by omega), xor8_xor8_xor8_cancel]

end Sys2Proof.Machine
end

section
/-! What a command that fails has done (spec/60_exceptions.md R195): it has raised an error of its row of R202, and
nothing else. -/

namespace Sys2Proof.Machine

/-- Settles O16: a command raises an error or completes, and completing writes `STATUS` 0x00; ENCCBC alone raises an
error on a state other than the one it was issued on, with the failed draw used up. -/
theorem anErrorChangesOnlyStatusAndOutput : Obligations.AnErrorChangesOnlyStatusAndOutput := by
  intro i s t run failed
  rcases exec_next run with ⟨e, possible, s', rfl, rfl | ⟨-, rfl⟩⟩ | ⟨s', out, rfl, -⟩
  · exact ⟨e, possible, s'.raise_raises e⟩
  · exact ⟨e, possible, s.dropAnswer_raise_raises e⟩
  · exact absurd (State.complete_delivers s' out).status failed

end Sys2Proof.Machine
end

section
/-! The invariant right after a reset (spec/10_state.md R43, R231), whatever the open parameters and the epoch. -/

namespace Sys2Proof.Machine

/-- A reset leaves no output and no error: `STATUS` 0x00, `OLEN` 0 and no specified byte in `OBUF`. -/
theorem State.resetAt_outputsFit (params : Params) (epoch : Nat) : OutputsFit (State.resetAt params epoch) where
  obuf := .blank .obuf epoch
  statusCode := by simp [State.resetAt]
  errorEmpty := fun _ => rfl
  resultWritten := by simp [State.resetAt]

/-- A reset blanks the input buffers, fits the outputs together and takes the key and the IV away. -/
theorem State.resetAt_inv (params : Params) (epoch : Nat) : Inv (State.resetAt params epoch) :=
  (inv_iff _).2 ⟨.blank .kbuf epoch, .blank .ibuf epoch, State.resetAt_outputsFit params epoch, fun _ => rfl⟩

/-- Settles O10: the first reset is a reset at the default parameters. -/
theorem resetMeetsTheInvariant : Obligations.ResetMeetsTheInvariant :=
  State.resetAt_inv Params.default 0

end Sys2Proof.Machine
end
